-- ==== Sys2Proof/Word.lean ====
section
/-! DEFINITION. The plain widths of the block: the byte, the nibble, the operation code and the request word
(spec 30_encoding.md R80, 20_memory.md R50, R60). Every value is unsigned (R11). -/

namespace Sys2Proof

/-- One byte: a request argument, a frame, a ROM entry. -/
abbrev Byte := BitVec 8

/-- One nibble: half a byte, what one strobe transfers (R60). -/
abbrev Nibble := BitVec 4

/-- An operation code, `op[2:0]` (R80). -/
abbrev OpCode := BitVec 3

/-- A request word, `req[10:0] = op[2:0] ++ arg[7:0]` (R80). -/
abbrev Word := BitVec 11

end Sys2Proof
end

