-- ==== Sys2Proof/Config.lean ====
section
/-! DEFINITION. The configuration record `Cfg` of spec 00_scope.md R8: every parameter the spec leaves to the
implementation, the reference configuration `CfgRef`, and the `CfgAlt` of 95_test_vectors.md.
The record is carried, unchanged by every step, in `Machine.State` (log entry 1), so that a statement about the machine
is a statement about every configuration. When a record is well formed is `Cfg.wf` in WellFormed.lean (R9). -/

namespace Sys2Proof

/-- The form of the four wake items of INIT: one strobe of the low nibble, or a whole byte transfer (R8, R141, R143). -/
inductive WakeForm where
  | nibble
  | byte
  deriving DecidableEq, Repr

/-- The configuration record of R8, in the order of its table. -/
structure Cfg where
  /-- `RS_BIT`, the register-select mask. -/
  rsBit : Byte
  /-- `RW_BIT`, the read/write mask, never set by the block (R83). -/
  rwBit : Byte
  /-- `EN_BIT`, the enable-strobe mask. -/
  enBit : Byte
  /-- `BL_BIT`, the backlight mask. -/
  blBit : Byte
  /-- `NIB_SHIFT`, 0 or 4. -/
  nibShift : Nat
  /-- `INIT_WAKE_FORM`. -/
  wakeForm : WakeForm
  /-- `INIT_FUNCTION_SET`. -/
  functionSet : Byte
  /-- `INIT_DISPLAY_ON`. -/
  displayOn : Byte
  /-- `INIT_ENTRY_MODE`. -/
  entryMode : Byte
  /-- `SETTLE_TICKS`, the settle delay in clock cycles, 0 allowed. -/
  settleTicks : Nat
  /-- `DLY_W`, the width of the settle counter. -/
  dlyW : Nat
  /-- `BL_RESET`, the reset value of the backlight state. -/
  blReset : Bool
  deriving DecidableEq, Repr

/-- `NIB_MASK = 0x0F << NIB_SHIFT`, 8 bits (R9, R82). -/
def Cfg.nibMask (c : Cfg) : Byte := 0x0F#8 <<< c.nibShift

/-- `CfgRef`, the record of all reference values (R8). -/
def cfgRef : Cfg where
  rsBit := 0x01
  rwBit := 0x02
  enBit := 0x04
  blBit := 0x08
  nibShift := 4
  wakeForm := .nibble
  functionSet := 0x28
  displayOn := 0x0C
  entryMode := 0x06
  settleTicks := 5
  dlyW := 3
  blReset := true

/-- `CfgAlt` of 95_test_vectors.md: control lines on the high half, data on the low half. -/
def cfgAlt : Cfg :=
  { cfgRef with rsBit := 0x10, rwBit := 0x20, enBit := 0x40, blBit := 0x80, nibShift := 0 }

end Sys2Proof
end

