-- ==== Sys2Proof/Syntax.lean ====
section
/-! DEFINITION. The instruction set: the seven request operations and the reserved code, one constructor for each row of
spec/opcode_table.json (R2, R81), and the host-side display geometry of the pseudo-instructions (R100). Every request
carries its whole argument byte, used or not, since acceptance latches it (R21, R87). -/

namespace Sys2Proof

/-- A request (R2, R80, R81). -/
inductive Instr where
  /-- INIT, `initialize()`: the argument is ignored (R140). -/
  | init (arg : Byte)
  /-- CMD, `writeCommand(opcode)`: the argument is the controller instruction byte (R150). -/
  | cmd (b : Byte)
  /-- DATA, `writeData(byte)`: the argument is the character code (R152). -/
  | data (b : Byte)
  /-- BL, `setBacklight(on)`: `on = arg[0]`, the other bits are ignored (R160). -/
  | bl (arg : Byte)
  /-- DUMP_ON, `enableDump(path)`: the argument is ignored (R170). -/
  | dumpOn (arg : Byte)
  /-- DUMP_OFF, `disableDump()`: the argument is ignored (R173). -/
  | dumpOff (arg : Byte)
  /-- RECOVER, "the caller re-establishes the bus": the argument is ignored (R176). -/
  | recover (arg : Byte)
  /-- The reserved operation code 7: the argument is ignored (R180). -/
  | reserved7 (arg : Byte)
  deriving DecidableEq, Repr

/-- The host's DisplayGeometry (R100): no hardware of the block, used by the pseudo-instructions only (R6). -/
structure Geometry where
  rows : Nat
  columns : Nat
  deriving DecidableEq, Repr

end Sys2Proof
end

