-- ==== Sys2Proof/WellFormed.lean ====
section
/-! DEFINITION. Well-formedness checks: of a configuration (R9), of a request (R86, R87, R90) and of a host-side geometry
(R100). -/

namespace Sys2Proof

/-- Exactly one bit set (R9). -/
def oneHot (b : Byte) : Bool := b != 0 && b &&& (b - 1) == 0

/-- The four control masks are pairwise different (R9). -/
def Cfg.masksDiffer (c : Cfg) : Bool :=
  c.rsBit != c.rwBit && c.rsBit != c.enBit && c.rsBit != c.blBit &&
  c.rwBit != c.enBit && c.rwBit != c.blBit && c.enBit != c.blBit

/-- No control mask intersects `NIB_MASK` (R9). -/
def Cfg.masksClearOfNibble (c : Cfg) : Bool :=
  c.rsBit &&& c.nibMask == 0 && c.rwBit &&& c.nibMask == 0 &&
  c.enBit &&& c.nibMask == 0 && c.blBit &&& c.nibMask == 0

/-- A well-formed `Cfg` (R9; `NIB_SHIFT` is 0 or 4 by the type column of R8 and by U18). The block is specified only for
these. -/
def Cfg.wf (c : Cfg) : Bool :=
  oneHot c.rsBit && oneHot c.rwBit && oneHot c.enBit && oneHot c.blBit &&
  c.masksDiffer && (c.nibShift == 0 || c.nibShift == 4) && c.masksClearOfNibble &&
  decide (c.settleTicks < 2 ^ c.dlyW)

/-- A well-formed request. Every request is: all 2048 request words have a meaning, and every argument of every
operation is legal (R85, R86, R87, R90), so there is nothing to refuse. -/
def Instr.wf : Instr → Bool
  | .init _ | .cmd _ | .data _ | .bl _ | .dumpOn _ | .dumpOff _ | .recover _ | .reserved7 _ => true

/-- The canonical encodings of R86 and R87: argument 0 or 1 for BL, argument 0 where the argument is ignored. -/
def Instr.canonical : Instr → Bool
  | .cmd _ | .data _ => true
  | .bl a => a == 0 || a == 1
  | .init a | .dumpOn a | .dumpOff a | .recover a | .reserved7 a => a == 0

/-- A geometry the host admits (R100): `rows` 1, 2 or 4, `columns` 1 to 40, 16 to 80 cells. -/
def Geometry.wf (g : Geometry) : Bool :=
  (g.rows == 1 || g.rows == 2 || g.rows == 4) && decide (1 ≤ g.columns ∧ g.columns ≤ 40) &&
  decide (16 ≤ g.rows * g.columns ∧ g.rows * g.columns ≤ 80)

end Sys2Proof
end

