-- ==== Sys2Proof/Decode.lean ====
section
/-! DEFINITION. The request word (R80), the opcode map (R81), the decoder, total and rejecting by name what is no request
word, and the encoder. -/

namespace Sys2Proof

/-! The operation codes of R81. -/

def opInit : OpCode := 0
def opCmd : OpCode := 1
def opData : OpCode := 2
def opBl : OpCode := 3
def opDumpOn : OpCode := 4
def opDumpOff : OpCode := 5
def opRecover : OpCode := 6
def opReserved7 : OpCode := 7

/-- `op = req[10:8]` (R80). -/
def wordOp (w : Word) : OpCode := w.extractLsb' 8 3

/-- `arg = req[7:0]` (R80). -/
def wordArg (w : Word) : Byte := w.extractLsb' 0 8

/-- The request that the values of the ports `req_op` and `req_arg` name (R80, R81). Total: every operation code is a row
of the opcode map. -/
def decodeReq (op : OpCode) (arg : Byte) : Instr :=
  if op = opInit then .init arg
  else if op = opCmd then .cmd arg
  else if op = opData then .data arg
  else if op = opBl then .bl arg
  else if op = opDumpOn then .dumpOn arg
  else if op = opDumpOff then .dumpOff arg
  else if op = opRecover then .recover arg
  else .reserved7 arg

/-- The request a request word stands for (R80, R81, R90). -/
def decodeWord (w : Word) : Instr := decodeReq (wordOp w) (wordArg w)

/-- Why a number is no request word. -/
inductive DecodeReject where
  /-- It does not fit the eleven bits of R80: there is one format and no second length. -/
  | notElevenBits
  deriving DecidableEq, Repr

/-- Decoding of any number of any width: the eleven-bit numbers are the request words, every other one is rejected by
name. -/
def decodeNat (n : Nat) : Except DecodeReject Instr :=
  if n < 2 ^ 11 then .ok (decodeWord (BitVec.ofNat 11 n)) else .error .notElevenBits

/-- The operation code of a request (R81). -/
def Instr.op : Instr → OpCode
  | .init _ => opInit
  | .cmd _ => opCmd
  | .data _ => opData
  | .bl _ => opBl
  | .dumpOn _ => opDumpOn
  | .dumpOff _ => opDumpOff
  | .recover _ => opRecover
  | .reserved7 _ => opReserved7

/-- The argument byte of a request (R80). -/
def Instr.arg : Instr → Byte
  | .init a | .cmd a | .data a | .bl a | .dumpOn a | .dumpOff a | .recover a | .reserved7 a => a

/-- The request word of a request: `op[2:0] ++ arg[7:0]` (R80). -/
def encode (i : Instr) : Word := i.op ++ i.arg

/-- The host's question about one row of the opcode table: what the decoder reads from an instruction whose bits are `w`,
bit 0 the least significant bit of the request word (the table numbers the eleven bits as R80 does), the bits above
`nbits` being 0. -/
def decodeTableWord (nbits w : Nat) : Option Instr :=
  match decodeNat (w % 2 ^ nbits) with
  | .ok i => some i
  | .error _ => none

end Sys2Proof
end

