-- ==== Sys2Proof/Machine/State.lean ====
section
/-! DEFINITION. The state of the machine: the fourteen elements of the record `S` of spec 10_state.md R20, the
configuration (R8), the input values of the coming clock edges (R190, R191) and the observable trace (R14); its reset
value (R45); and the reasons a step can stop. -/

namespace Sys2Proof.Machine

/-- The four sequencer states (R23). -/
inductive Seq where
  /-- 0: no operation running, a request can be accepted. -/
  | idle
  /-- 1: a byte is presented to a sink and its answer is awaited. -/
  | emit
  /-- 2: the settle delay after a physical write is running. -/
  | settle
  /-- 3: the one-cycle completion pulse. -/
  | fin
  deriving DecidableEq, Repr

/-- The sequencer pointer `(step[2:0], nib, phase[1:0])`, this hardware's program counter (R24). -/
structure Ptr where
  /-- INIT item index, 0 for every other operation. -/
  step : BitVec 3
  /-- `false` is 0, the high nibble; `true` is 1, the low nibble. -/
  nib : Bool
  /-- Which of the three writes of a strobe. -/
  phase : BitVec 2
  deriving DecidableEq, Repr

/-- The pointer `(0, 0, 0)`. -/
def Ptr.zero : Ptr := ⟨0, false, 0⟩

/-- The status codes of R230 by name; the numbers are `Status.code`. -/
inductive Status where
  | ok
  | eTransport
  | eNotInit
  | eFaulted
  | eIllegal
  deriving DecidableEq, Repr

/-- What a sink answers to a write: `ok` or `fail` (R52, R56). A write that is not answered yet has no answer. -/
inductive Answer where
  | ok
  | fail
  deriving DecidableEq, Repr

/-- The events of the observable trace (R14). -/
inductive Event where
  /-- A physical write the transport answered `ok`. -/
  | busWrite (v : Byte)
  /-- A physical write the transport answered `fail`. -/
  | busFail (v : Byte)
  /-- A dump write the sink answered `ok`. -/
  | dumpWrite (v : Byte)
  /-- A dump write the sink answered `fail`. -/
  | dumpFail (v : Byte)
  /-- Completion of a request with its status. -/
  | done (op : OpCode) (st : Status)
  deriving DecidableEq, Repr

/-- The values of the input ports at one rising edge of `clk` (R190): reset, the request port, and the answers of the two
sinks. -/
structure In where
  rst : Bool
  reqValid : Bool
  reqOp : OpCode
  reqArg : Byte
  busDone : Bool
  busFail : Bool
  dumpDone : Bool
  dumpFail : Bool
  deriving DecidableEq, Repr

/-- An edge at which nothing is asserted: no reset, no request, no answer. -/
def In.quiet : In := ⟨false, false, 0, 0, false, false, false, false⟩

/-- The state of the machine. The fields from `seq` to `lastStatus` are the record `S` of R20; `cfg`, `inputs` and
`trace` are the model's own carriers of what R20 calls parameters and inputs of the step and of the trace of R14 (log
entries 1, 2, 3). -/
structure State where
  /-- The configuration; no step changes it. -/
  cfg : Cfg
  /-- `seq[1:0]`. -/
  seq : Seq
  /-- `op_q[2:0]`, the operation code of the running or last request. -/
  opQ : OpCode
  /-- `arg_q[7:0]`, its argument byte. -/
  argQ : Byte
  /-- `(step, nib, phase)`. -/
  ptr : Ptr
  /-- `dly[DLY_W-1:0]`, the remaining settle cycles; that it fits `DLY_W` bits is an invariant (log entry 4). -/
  dly : Nat
  /-- The backlight state. -/
  bl : Bool
  /-- The dump mode. -/
  dump : Bool
  /-- An INIT has completed with `OK` since reset. -/
  inited : Bool
  /-- A TransportError happened and RECOVER has not been run since. -/
  fault : Bool
  /-- `cause[2:0]`, the status code of the event that set `fault`. -/
  cause : BitVec 3
  /-- A DumpSinkError happened. -/
  dumpWarn : Bool
  /-- `last_status[2:0]`, the status code of the most recently completed request. -/
  lastStatus : BitVec 3
  /-- The input values at the coming edges, the next one first; every edge after the last listed one is `In.quiet`. -/
  inputs : List In
  /-- The observable trace, oldest event first. -/
  trace : List Event
  deriving DecidableEq, Repr

/-- The state right after reset under a configuration (R45, R270). -/
def State.resetWith (c : Cfg) : State where
  cfg := c
  seq := .idle
  opQ := 0
  argQ := 0
  ptr := Ptr.zero
  dly := 0
  bl := c.blReset
  dump := false
  inited := false
  fault := false
  cause := 0
  dumpWarn := false
  lastStatus := 0
  inputs := []
  trace := []

/-- The machine right after reset, under the reference configuration (R8, R45). -/
def State.reset : State := State.resetWith cfgRef

/-- The machine never stops with a fault: the one fault of the spec, TransportError, is a next state (R232, part A of
93_implementation_defined.md), and a write that is never answered keeps the machine in `EMIT` (R211). The type has no
constructor, and nobody raises it. -/
inductive Fault where
  deriving DecidableEq, Repr

/-- The reasons a step is refused. -/
inductive Refusal where
  /-- Raised by an arm of `exec` for an instruction that has no meaning yet. No arm does. Safe. -/
  | notModelled (mnemonic : String)
  /-- Raised by `step` for a configuration that is not well formed: "a model refuses an ill-formed record" (R9, U18).
  Safe. -/
  | illFormedCfg
  /-- Raised by `step`, when reset is not asserted, for a state outside the invariant of R213: "a model need give them no
  meaning and should refuse a state that holds one" (R25, U19). No run from reset meets it. Safe. -/
  | unreachableState
  deriving DecidableEq, Repr

end Sys2Proof.Machine
end

