-- ==== Sys2Proof/Machine/Operands.lean ====
section
/-! DEFINITION. Operand forms: the nibble split of a byte (R60, R85), the `on` bit of BL (R86), and the constant table
`INIT_ROM` (R36). -/

namespace Sys2Proof.Machine

/-- `hi(b) = b[7:4]` (R60, R85). -/
def hiNibble (b : Byte) : Nibble := b.extractLsb' 4 4

/-- `lo(b) = b[3:0]` (R60, R85). -/
def loNibble (b : Byte) : Nibble := b.extractLsb' 0 4

/-- `on = arg[0]`; `arg[7:1]` are ignored (R86). -/
def onBit (arg : Byte) : Bool := arg.getLsbD 0

/-- `INIT_ROM[step]` (R36, R10). -/
def initRom (c : Cfg) (step : BitVec 3) : Byte :=
  match step.toNat with
  | 0 => 0x03
  | 1 => 0x03
  | 2 => 0x03
  | 3 => 0x02
  | 4 => c.functionSet
  | 5 => c.displayOn
  | 6 => 0x01
  | _ => c.entryMode

/-- `wake(step)`: the first four items of the initialization sequence (R129). -/
def wakeItem (step : BitVec 3) : Bool := decide (step.toNat ≤ 3)

/-- `byte_of(op, arg, step)`: the byte a running operation transfers (R128). -/
def byteOf (c : Cfg) (op : OpCode) (arg : Byte) (step : BitVec 3) : Byte :=
  if op = opInit then initRom c step else arg

end Sys2Proof.Machine
end

