-- ==== Sys2Proof/Machine/Flags.lean ====
section
/-! DEFINITION. The status codes (R230), the STATUS word (R34), and the acceptance checks that read the flags (R37, R239 to
R243). The block has no arithmetic condition codes (R37). -/

namespace Sys2Proof.Machine

/-- The numeric status codes (R230); 5 to 7 are never produced. -/
def Status.code : Status → BitVec 3
  | .ok => 0
  | .eTransport => 1
  | .eNotInit => 2
  | .eFaulted => 3
  | .eIllegal => 4

/-- `busy`, derived, not stored: 1 when `seq != IDLE` (R34, R37). -/
def State.busy (s : State) : Bool := s.seq != .idle

/-- The STATUS word, `0b00 ++ bl ++ dump_warn ++ dump ++ fault ++ inited ++ busy` (R34, R192). -/
def State.stat (s : State) : Byte :=
  0#2 ++ BitVec.ofBool s.bl ++ BitVec.ofBool s.dumpWarn ++ BitVec.ofBool s.dump ++
    BitVec.ofBool s.fault ++ BitVec.ofBool s.inited ++ BitVec.ofBool s.busy

/-- The check of every request but RECOVER and the reserved one: `fault = 1` refuses with `E_FAULTED` (R241). -/
def State.faultedCheck (s : State) : Option Status :=
  if s.fault then some .eFaulted else none

/-- The checks of CMD, DATA and BL, in the order of R243: `fault = 1` refuses with `E_FAULTED` (R241), then `inited = 0`
with `E_NOT_INIT` (R240). -/
def State.notInitCheck (s : State) : Option Status :=
  if s.fault then some .eFaulted else if s.inited then none else some .eNotInit

end Sys2Proof.Machine
end

