-- ==== Sys2Proof/Machine/Frame.lean ====
section
/-! DEFINITION. The pure functions every emission list is built from (40_transfer_primitives.md R120 to R124, 41_init.md
R141): frame, strobe, byte transfer, control write, INIT items and the emission list of an operation. -/

namespace Sys2Proof.Machine

/-- `frame(n, rs, bl)` (R82, R120): nibble, backlight and register-select bits; `EN_BIT` and `RW_BIT` stay clear. -/
def frame (c : Cfg) (n : Nibble) (rs bl : Bool) : Byte :=
  (n.setWidth 8 <<< c.nibShift) ||| (if bl then c.blBit else 0x00) ||| (if rs then c.rsBit else 0x00)

/-- `strobe(n, rs, bl)`: frame, frame with enable, frame without enable (R121). -/
def strobe (c : Cfg) (n : Nibble) (rs bl : Bool) : List Byte :=
  [frame c n rs bl, frame c n rs bl ||| c.enBit, frame c n rs bl &&& ~~~c.enBit]

/-- `byteSeq(b, rs, bl)`: two strobes, high nibble first (R122). -/
def byteSeq (c : Cfg) (b : Byte) (rs bl : Bool) : List Byte :=
  strobe c (hiNibble b) rs bl ++ strobe c (loNibble b) rs bl

/-- The byte of a control write: only the backlight bit (R123). -/
def ctlByte (c : Cfg) (bl : Bool) : Byte := if bl then c.blBit else 0x00

/-- `ctl(bl)` (R123). -/
def ctl (c : Cfg) (bl : Bool) : List Byte := [ctlByte c bl]

/-- `item(step, bl)`: a wake item in `NIBBLE` form is one strobe of the low nibble, every other item a byte transfer
(R141). -/
def initItem (c : Cfg) (step : BitVec 3) (bl : Bool) : List Byte :=
  if wakeItem step && c.wakeForm == .nibble then strobe c (loNibble (initRom c step)) false bl
  else byteSeq c (initRom c step) false bl

/-- `initList(bl)`: the eight items in `step` order (R141). -/
def initList (c : Cfg) (bl : Bool) : List Byte :=
  initItem c 0 bl ++ initItem c 1 bl ++ initItem c 2 bl ++ initItem c 3 bl ++
  initItem c 4 bl ++ initItem c 5 bl ++ initItem c 6 bl ++ initItem c 7 bl

/-- `emitList(op, arg, bl)`, with the `bl` that acceptance leaves (R124). -/
def emitList (c : Cfg) (op : OpCode) (arg : Byte) (bl : Bool) : List Byte :=
  if op = opInit then initList c bl
  else if op = opCmd then byteSeq c arg false bl
  else if op = opData then byteSeq c arg true bl
  else if op = opBl then ctl c bl
  else []

end Sys2Proof.Machine
end

