-- ==== Sys2Proof/Machine/Pointer.lean ====
section
/-! DEFINITION. The pointer functions of the sequencer (R24, R25, R128, R129): first pointer, successor, legal pointers,
linear index, and the byte at a pointer. -/

namespace Sys2Proof.Machine

/-- `firstnib(op, step)`: 1 for a wake item of INIT in `NIBBLE` form, 0 otherwise (R129). -/
def firstNib (c : Cfg) (op : OpCode) (step : BitVec 3) : Bool :=
  decide (op = opInit) && (c.wakeForm == .nibble) && wakeItem step

/-- `start(op)` (R129). -/
def startPtr (c : Cfg) (op : OpCode) : Ptr := ⟨0, firstNib c op 0, 0⟩

/-- `next(op, ptr)`; `none` is `END` (R129). -/
def nextPtr (c : Cfg) (op : OpCode) (p : Ptr) : Option Ptr :=
  if op = opBl then none
  else if p.phase.toNat < 2 then some ⟨p.step, p.nib, p.phase + 1⟩
  else if p.nib = false then some ⟨p.step, true, 0⟩
  else if op = opInit ∧ p.step.toNat < 7 then some ⟨p.step + 1, firstNib c opInit (p.step + 1), 0⟩
  else none

/-- The operations that emit: INIT, CMD, DATA, BL (R24, R124). -/
def emits (op : OpCode) : Bool := decide (op.toNat < 4)

/-- The legal pointers of an operation, the table of R24. -/
def legalPtr (c : Cfg) (op : OpCode) (p : Ptr) : Bool :=
  if op = opInit then decide (p.phase.toNat < 3) && (p.nib || !firstNib c opInit p.step)
  else if op = opBl then decide (p = Ptr.zero)
  else if op = opCmd ∨ op = opData then decide (p.step = 0) && decide (p.phase.toNat < 3)
  else false

/-- The linear index of the emission a legal pointer names: its position, from 0, in the emission list (R25). -/
def ptrIndex (c : Cfg) (op : OpCode) (p : Ptr) : Nat :=
  if op = opInit ∧ c.wakeForm = .nibble then
    if wakeItem p.step then 3 * p.step.toNat + p.phase.toNat
    else 12 + 6 * (p.step.toNat - 4) + 3 * p.nib.toNat + p.phase.toNat
  else 6 * p.step.toNat + 3 * p.nib.toNat + p.phase.toNat

/-- `cur(op, arg, bl, ptr)`: the byte at a pointer (R128). This is the command/data encoder of R206. -/
def cur (c : Cfg) (op : OpCode) (arg : Byte) (bl : Bool) (p : Ptr) : Byte :=
  let b := byteOf c op arg p.step
  let f := frame c (if p.nib then loNibble b else hiNibble b) (decide (op = opData)) bl
  if op = opBl then ctlByte c bl
  else if p.phase = 1 then f ||| c.enBit
  else f

/-- The current byte of the running operation (R42, R128). -/
def State.curByte (s : State) : Byte := cur s.cfg s.opQ s.argQ s.bl s.ptr

end Sys2Proof.Machine
end

