-- ==== Sys2Proof/Machine/Ops.lean ====
section
/-! DEFINITION. The shared operations of the machine: latching and accepting a request (R193, R194), refusing it (R242), the
end of an operation (R204), the move to the next emission (R200), the two writes with their answers (R52, R56, R196,
R197), the settle delay (R126, R199), taking a TransportError and a DumpSinkError (R232, R236), the return from a
TransportError (R248), reset (R270), the input edges (R191), the outputs (R192), and the invariant of R213. -/

namespace Sys2Proof.Machine

/-! The named updates of the state. -/

/-- `op_q <- op; arg_q <- arg` (R21, R194). -/
def State.latch (op : OpCode) (arg : Byte) (s : State) : State := { s with opQ := op, argQ := arg }

/-- One more event of the trace (R14). -/
def State.record (e : Event) (s : State) : State := { s with trace := s.trace ++ [e] }

/-- `complete(st)`: the end of an operation (R204). -/
def State.complete (st : Status) (s : State) : State :=
  { s with
    lastStatus := st.code
    ptr := Ptr.zero
    dly := 0
    seq := .fin
    trace := s.trace ++ [.done s.opQ st] }

/-- `ptr <- p; seq <- EMIT`: an emission is presented (R194, R200). -/
def State.present (p : Ptr) (s : State) : State := { s with ptr := p, seq := .emit }

/-- `dly <- SETTLE_TICKS; seq <- SETTLE` (R196). -/
def State.startSettle (s : State) : State := { s with dly := s.cfg.settleTicks, seq := .settle }

/-- The flags of a TransportError: `fault <- 1; cause <- E_TRANSPORT` (R232). -/
def State.setFault (s : State) : State := { s with fault := true, cause := Status.eTransport.code }

/-- `fault <- 0; cause <- 0` (R176). -/
def State.clearFault (s : State) : State := { s with fault := false, cause := 0 }

/-- The flags of a DumpSinkError: `dump <- 0; dump_warn <- 1` (R236). -/
def State.warnDump (s : State) : State := { s with dump := false, dumpWarn := true }

/-- The input edge at hand has been used. -/
def State.popIn (s : State) : State := { s with inputs := s.inputs.tail }

/-- A trace without the `Done` event it ends with, if it ends with one. -/
def withdrawDone (t : List Event) : List Event :=
  match t.getLast? with
  | some (.done _ _) => t.dropLast
  | some (.busWrite _) | some (.busFail _) | some (.dumpWrite _) | some (.dumpFail _) | none => t

/-- The trace a reset edge leaves: no event is added, and an operation abandoned in `FIN` has no `Done` event, so the one
recorded when it entered `FIN` (R204) is withdrawn (R272; log entry 20). -/
def State.traceAfterReset (s : State) : List Event := if s.seq = .fin then withdrawDone s.trace else s.trace

/-- Reset: every element of `S` at its value of R45 (R270). A running operation is abandoned, without a `Done` event, and a
write in flight is withdrawn, without an event (R272). The configuration and the coming input edges are not the block's. -/
def State.applyReset (s : State) : State :=
  { State.resetWith s.cfg with inputs := s.inputs, trace := s.traceAfterReset }

/-! Inputs (R190, R191). -/

/-- The input values at the coming edge: the first listed ones, or nothing asserted. -/
def State.nextIn (s : State) : In := s.inputs.headD In.quiet

/-- The transport's answer at an edge: `fail` wins, no line means not answered yet (R52, R244). -/
def In.busAnswer (e : In) : Option Answer :=
  if e.busFail then some .fail else if e.busDone then some .ok else none

/-- The sink's answer at an edge (R56, R244). -/
def In.dumpAnswer (e : In) : Option Answer :=
  if e.dumpFail then some .fail else if e.dumpDone then some .ok else none

/-! Exceptions: taking one, and the return from it. -/

/-- Taking a TransportError, this hardware's trap entry (R232, R247): `fault` and `cause` are set, the operation is aborted
with `E_TRANSPORT`, no pointer and no byte is saved, and control goes to `FIN`. Nothing is rolled back (R233). -/
def State.raiseTransportError (s : State) : State :=
  ((s.record (.busFail s.curByte)).setFault).complete .eTransport

/-- The return from a TransportError, RECOVER (R176, R248): it clears `fault` and `cause`, restores nothing and resumes
nothing. -/
def State.returnFromFault (s : State) : State := s.clearFault.complete .ok

/-- Taking a DumpSinkError (R197, R236): dump mode is left with a warning, and the operation starts again at its first
emission, now on the physical bus. -/
def State.raiseDumpSinkError (s : State) : State :=
  ((s.record (.dumpFail s.curByte)).warnDump).present (startPtr s.cfg s.opQ)

/-! The sequencer (R196 to R204). -/

/-- The end of an operation that has emitted its whole list: `inited <- 1` if it is INIT, then `complete(OK)` (R200). -/
def State.finish (s : State) : State :=
  ({ s with inited := s.inited || decide (s.opQ = opInit) } : State).complete .ok

/-- `advance()`: to the next emission, or to the end of the operation (R200). -/
def State.advance (s : State) : State :=
  match nextPtr s.cfg s.opQ s.ptr with
  | none => s.finish
  | some p => s.present p

/-- `MemWrite(BUS, 1, v)` of the current byte with the answer of this edge (R52, R196): no answer, keep waiting; `fail`, a
TransportError; `ok`, the write is made and the settle delay follows, of no cycle when `SETTLE_TICKS = 0` (R126). -/
def State.busWrite (r : Option Answer) (s : State) : State :=
  match r with
  | none => s
  | some .fail => s.raiseTransportError
  | some .ok =>
    if s.cfg.settleTicks = 0 then (s.record (.busWrite s.curByte)).advance
    else (s.record (.busWrite s.curByte)).startSettle

/-- `MemWrite(DUMP, 1, v)` of the current byte with the answer of this edge (R56, R197): no answer, keep waiting; `fail`, a
DumpSinkError; `ok`, the record is appended and no settle delay follows. -/
def State.dumpWrite (r : Option Answer) (s : State) : State :=
  match r with
  | none => s
  | some .fail => s.raiseDumpSinkError
  | some .ok => (s.record (.dumpWrite s.curByte)).advance

/-- An edge in `EMIT`: the port that `dump` selects is sampled, the other one is ignored (R125, R196, R197). -/
def State.emitEdge (e : In) (s : State) : State :=
  if s.dump then s.dumpWrite e.dumpAnswer else s.busWrite e.busAnswer

/-- An edge in `SETTLE` (R199). -/
def State.settleEdge (s : State) : State :=
  if s.dly = 1 then ({ s with dly := 0 } : State).advance else { s with dly := s.dly - 1 }

/-- An edge in `FIN` (R201). -/
def State.finEdge (s : State) : State := { s with seq := .idle }

/-! Acceptance (R193, R194). -/

/-- A request presented at an edge. It is accepted in `IDLE` only, and ignored in every other state (R193, R281). At the
accepting edge the latches are written; then the checks decide: a refusal completes the request with its code and changes
nothing else (R242), no refusal lets the request take its effect. -/
def State.accept (op : OpCode) (arg : Byte) (check : State → Option Status) (effect : State → State)
    (s : State) : State :=
  if s.seq = .idle then
    match check s with
    | some st => (s.latch op arg).complete st
    | none => effect (s.latch op arg)
  else s

/-- The effect of an operation that emits: the sequencer starts at `start(op)` (R194). -/
def State.startEmission (s : State) : State := s.present (startPtr s.cfg s.opQ)

/-! Outputs (R51, R55, R192): functions of the state alone. -/

/-- `bus_valid` (R51). -/
def State.busValid (s : State) : Bool := s.seq == .emit && !s.dump

/-- `dump_valid` (R55). -/
def State.dumpValid (s : State) : Bool := s.seq == .emit && s.dump

/-- The output ports (R190, R192). A byte is exposed only together with its `valid`: the value of the port is unspecified
otherwise, and is `none` here (D21, U13). -/
structure Out where
  reqReady : Bool
  done : Bool
  status : BitVec 3
  stat : Byte
  busValid : Bool
  busByte : Option Byte
  dumpValid : Bool
  dumpByte : Option Byte
  deriving DecidableEq, Repr

/-- The values of the output ports in a state (R192). -/
def State.outputs (s : State) : Out where
  reqReady := s.seq == .idle
  done := s.seq == .fin
  status := s.lastStatus
  stat := s.stat
  busValid := s.busValid
  busByte := if s.busValid then some s.curByte else none
  dumpValid := s.dumpValid
  dumpByte := if s.dumpValid then some s.curByte else none

/-! The invariant of R213. -/

/-- R213 (a) to (f), with R26 (`dly` is 0 outside `SETTLE`). R213 (g) holds of every state by the form of `busValid` and
`dumpValid`. -/
def State.legal (s : State) : Bool :=
  (match s.seq with
   | .idle => decide (s.ptr = Ptr.zero ∧ s.dly = 0)
   | .fin => decide (s.ptr = Ptr.zero ∧ s.dly = 0)
   | .emit => decide (s.dly = 0)
   | .settle => decide (1 ≤ s.dly ∧ s.dly ≤ s.cfg.settleTicks ∧ s.dump = false)) &&
  (match s.seq with
   | .idle | .fin => true
   | .emit | .settle =>
     emits s.opQ && !s.fault && legalPtr s.cfg s.opQ s.ptr && (s.inited == decide (s.opQ ≠ opInit))) &&
  decide ((s.fault = true → s.cause = 1) ∧ (s.fault = false → s.cause = 0)) &&
  decide (s.lastStatus.toNat ≤ 4)

/-! Reading the trace. -/

/-- The bytes physically written, oldest first: the `BusWrite` events (R234). -/
def busBytes : List Event → List Byte
  | [] => []
  | .busWrite v :: t => v :: busBytes t
  | .busFail _ :: t | .dumpWrite _ :: t | .dumpFail _ :: t | .done _ _ :: t => busBytes t

/-- The records of the dump log, oldest first: the `DumpWrite` events (R56, R57). The rendering of a record and the labels
are the sink's, so these are not all the log holds (R58). -/
def dumpLog : List Event → List Byte
  | [] => []
  | .dumpWrite v :: t => v :: dumpLog t
  | .busWrite _ :: t | .busFail _ :: t | .dumpFail _ :: t | .done _ _ :: t => dumpLog t

end Sys2Proof.Machine
end

