-- ==== Sys2Proof/Machine/Backlight.lean ====
section
/-! DEFINITION. BL, backlight control (43_backlight.md). The one byte it emits is `ctl(bl)` with the new `bl` (R123). -/

namespace Sys2Proof.Machine

/-- BL (R160, R194): refused when faulted, then when not initialised; otherwise `bl <- arg[0]` and the control write is
started. -/
def execBl (arg : Byte) (s : State) : Host.Outcome State Fault Refusal :=
  .next (s.accept opBl arg State.notInitCheck fun s => ({ s with bl := onBit arg } : State).startEmission)

end Sys2Proof.Machine
end

