-- ==== Sys2Proof/Machine/CmdData.lean ====
section
/-! DEFINITION. CMD and DATA, the command/data encoder (42_write_cmd_data.md). The six bytes each emits are
`byteSeq(arg, rs, bl)` (R122) and, pointer by pointer, `cur` (R128); `rs` is 1 for DATA only. -/

namespace Sys2Proof.Machine

/-- CMD (R150, R194): refused when faulted, then when not initialised; otherwise the sequencer starts on the latched byte,
with `rs = 0`. -/
def execCmd (b : Byte) (s : State) : Host.Outcome State Fault Refusal :=
  .next (s.accept opCmd b State.notInitCheck State.startEmission)

/-- DATA (R152, R194): as CMD, with `rs = 1`. -/
def execData (b : Byte) (s : State) : Host.Outcome State Fault Refusal :=
  .next (s.accept opData b State.notInitCheck State.startEmission)

end Sys2Proof.Machine
end

