-- ==== Sys2Proof/Machine/Init.lean ====
section
/-! DEFINITION. INIT, the initialization FSM (41_init.md). The items it emits are `initList` (R141) and, pointer by pointer,
`cur` with `initRom` (R36, R128); `inited` is set again at its completion, in `State.finish` (R200). -/

namespace Sys2Proof.Machine

/-- INIT (R140, R194): refused when faulted; otherwise `inited <- 0` and the sequencer starts at `start(INIT)`. -/
def execInit (arg : Byte) (s : State) : Host.Outcome State Fault Refusal :=
  .next (s.accept opInit arg State.faultedCheck fun s => ({ s with inited := false } : State).startEmission)

end Sys2Proof.Machine
end

