-- ==== Sys2Proof/Machine/System.lean ====
section
/-! DEFINITION. The system operations (44_system_ops.md): DUMP_ON, DUMP_OFF, RECOVER and the reserved operation. None of them
emits a byte; each completes one cycle after acceptance. -/

namespace Sys2Proof.Machine

/-- DUMP_ON (R170, R194): refused when faulted; otherwise `dump <- 1; dump_warn <- 0`. The DUMP port is not probed. -/
def execDumpOn (arg : Byte) (s : State) : Host.Outcome State Fault Refusal :=
  .next (s.accept opDumpOn arg State.faultedCheck fun s =>
    ({ s with dump := true, dumpWarn := false } : State).complete .ok)

/-- DUMP_OFF (R173, R194): refused when faulted; otherwise `dump <- 0`. -/
def execDumpOff (arg : Byte) (s : State) : Host.Outcome State Fault Refusal :=
  .next (s.accept opDumpOff arg State.faultedCheck fun s => ({ s with dump := false } : State).complete .ok)

/-- RECOVER (R176, R194): never refused; the return from a TransportError. -/
def execRecover (arg : Byte) (s : State) : Host.Outcome State Fault Refusal :=
  .next (s.accept opRecover arg (fun _ => none) State.returnFromFault)

/-- The reserved operation (R180, R194, R239): it completes with `E_ILLEGAL` whatever `fault` and `inited` are. -/
def execReserved7 (arg : Byte) (s : State) : Host.Outcome State Fault Refusal :=
  .next (s.accept opReserved7 arg (fun _ => some .eIllegal) id)

end Sys2Proof.Machine
end

