-- ==== Sys2Proof/Machine/Dispatch.lean ====
section
/-! DEFINITION. The meaning of a request presented on the request port at an edge (R193, R194): one arm for each row of the
opcode map. What an accepted request then emits, edge by edge, is the sequencer's (Step.lean, R196 to R204); the whole
operation, from acceptance to completion, is the operation level of Operation.lean, and R212 ties the two. -/

namespace Sys2Proof.Machine

def exec (i : Instr) (s : State) : Host.Outcome State Fault Refusal :=
  match i with
  | .init a => Sys2Proof.Machine.execInit a s
  | .cmd b => Sys2Proof.Machine.execCmd b s
  | .data b => Sys2Proof.Machine.execData b s
  | .bl a => Sys2Proof.Machine.execBl a s
  | .dumpOn a => Sys2Proof.Machine.execDumpOn a s
  | .dumpOff a => Sys2Proof.Machine.execDumpOff a s
  | .recover a => Sys2Proof.Machine.execRecover a s
  | .reserved7 a => Sys2Proof.Machine.execReserved7 a s

end Sys2Proof.Machine
end

