-- ==== Sys2Proof/Machine/Step.lean ====
section
/-! DEFINITION. One step of the machine: one rising edge of `clk` (R191, R205). -/

namespace Sys2Proof.Machine

/-- An edge with `rst = 0` in a state of R213, `s` being the state with the edge's inputs `e` already taken off the list
(R193, R196, R197, R199, R201). -/
def edge (e : In) (s : State) : Host.Outcome State Fault Refusal :=
  match s.seq with
  | .idle => if e.reqValid then exec (decodeReq e.reqOp e.reqArg) s else .next s
  | .emit => .next (s.emitEdge e)
  | .settle => .next s.settleEdge
  | .fin => .next s.finEdge

/-- One rising edge (R191, R205): the configuration must be well formed (R9); `rst = 1` overrides everything (R244, R270);
a state outside R213 has no meaning (R25, U19). -/
def step (s : State) : Host.Outcome State Fault Refusal :=
  if s.cfg.wf = false then .refused .illFormedCfg
  else if s.nextIn.rst then .next s.popIn.applyReset
  else if s.legal = false then .refused .unreachableState
  else edge s.nextIn s.popIn

/-- The input values at an edge at which the host presents the request word `w` and nothing else is asserted. -/
def In.request (w : Word) : In := { In.quiet with reqValid := true, reqOp := wordOp w, reqArg := wordArg w }

/-- The state in which the next edge accepts the request whose bits are `w`: the block is idle, and the request is on the
port at the coming edge (log entry 5). -/
def State.withFetchWord (s : State) (nbits w : Nat) : State :=
  { s with
    seq := .idle
    ptr := Ptr.zero
    dly := 0
    inputs := In.request (BitVec.ofNat 11 (w % 2 ^ nbits)) :: s.inputs }

end Sys2Proof.Machine
end

