-- ==== Sys2Proof/Machine/Operation.lean ====
section
/-! DEFINITION. The operation level (files 40 to 44): each request as a function from the state in which it is accepted and
the answers of the sinks to the trace and the state it leaves (R13, R127, R140, R150, R152, R160, R170, R173, R176,
R180). It carries no time (R292). R212 says it agrees with the clocked machine. -/

namespace Sys2Proof.Machine

/-- How an operation ends (R12, R52, R127). -/
inductive OpResult where
  /-- It completed, leaving a state and the answers it has not used. -/
  | completed (s : State) (left : List Answer)
  /-- A write was never answered: the operation never returns (R127). `s` is the state at that write. -/
  | hang (s : State)
  deriving DecidableEq, Repr

/-- Completion at the operation level: the status and the `Done` event (R14, R33). -/
def State.opComplete (st : Status) (s : State) : State :=
  { s with lastStatus := st.code, trace := s.trace ++ [.done s.opQ st] }

/-- The loop of `Run(L)` (R127): `rest` is what of the list `full` is still to be emitted. A DumpSinkError restarts the whole
list on the physical bus. `Settle()` is time only and has no effect here (R126). -/
def runList (full rest : List Byte) (answers : List Answer) (s : State) : OpResult :=
  match rest, answers with
  | [], left =>
    .completed (({ s with inited := s.inited || decide (s.opQ = opInit) } : State).opComplete .ok) left
  | _ :: _, [] => .hang s
  | v :: rest, a :: left =>
    if s.dump then
      match a with
      | .fail => runList full full left ((s.record (.dumpFail v)).warnDump)
      | .ok => runList full rest left (s.record (.dumpWrite v))
    else
      match a with
      | .fail => .completed (((s.record (.busFail v)).setFault).opComplete .eTransport) left
      | .ok => runList full rest left (s.record (.busWrite v))
termination_by structural answers

/-- `Run(L)` (R127). -/
def runOp (list : List Byte) (answers : List Answer) (s : State) : OpResult := runList list list answers s

/-- A request at the operation level: the pseudocode of R140, R150, R152, R160, R170, R173, R176 and R180, from the state
before acceptance. -/
def perform (i : Instr) (answers : List Answer) (s0 : State) : OpResult :=
  let s := s0.latch i.op i.arg
  match i with
  | .init _ =>
    if s.fault then .completed (s.opComplete .eFaulted) answers
    else runOp (initList s.cfg s.bl) answers { s with inited := false }
  | .cmd b =>
    if s.fault then .completed (s.opComplete .eFaulted) answers
    else if s.inited = false then .completed (s.opComplete .eNotInit) answers
    else runOp (byteSeq s.cfg b false s.bl) answers s
  | .data b =>
    if s.fault then .completed (s.opComplete .eFaulted) answers
    else if s.inited = false then .completed (s.opComplete .eNotInit) answers
    else runOp (byteSeq s.cfg b true s.bl) answers s
  | .bl a =>
    if s.fault then .completed (s.opComplete .eFaulted) answers
    else if s.inited = false then .completed (s.opComplete .eNotInit) answers
    else runOp (ctl s.cfg (onBit a)) answers { s with bl := onBit a }
  | .dumpOn _ =>
    if s.fault then .completed (s.opComplete .eFaulted) answers
    else .completed (({ s with dump := true, dumpWarn := false } : State).opComplete .ok) answers
  | .dumpOff _ =>
    if s.fault then .completed (s.opComplete .eFaulted) answers
    else .completed (({ s with dump := false } : State).opComplete .ok) answers
  | .recover _ => .completed (s.clearFault.opComplete .ok) answers
  | .reserved7 _ => .completed (s.opComplete .eIllegal) answers

/-- A program at the operation level (R95): the requests in order, each presented after the completion of the one before.
As the expansion of a pseudo-instruction it stops at the first request that completes with a non-zero status (R107); what
is completed is not undone. -/
def performUntilError : List Instr → List Answer → State → OpResult
  | [], answers, s => .completed s answers
  | i :: rest, answers, s =>
    match perform i answers s with
    | .hang s' => .hang s'
    | .completed s' left => if s'.lastStatus = 0 then performUntilError rest left s' else .completed s' left

end Sys2Proof.Machine
end

