-- ==== Sys2Proof/Machine/Pseudo.lean ====
section
/-! DEFINITION. The informative host-side helpers (R6, R100 to R106): the RowAddressTable, `addressOf`, and the
pseudo-instructions as sequences of requests. They are no hardware of the block. -/

namespace Sys2Proof.Machine

/-- The errors a host raises before any request is presented (R231, R238). -/
inductive HostError where
  /-- ConfigurationError: an invalid geometry (R100). -/
  | configuration
  /-- BoundsError: a row or column outside the geometry (R101). -/
  | bounds
  deriving DecidableEq, Repr

/-- The RowAddressTable: one set-DDRAM-address command byte for each row (R100). -/
def rowAddressTable (g : Geometry) : List Byte :=
  match g.rows with
  | 1 => [0x80]
  | 2 => [0x80, 0xC0]
  | 4 => [0x80, 0xC0, 0x80 + BitVec.ofNat 8 g.columns, 0xC0 + BitVec.ofNat 8 g.columns]
  | _ => []

/-- `RowAddressTable[row-1]`, for a row of a valid geometry. -/
def rowBase (g : Geometry) (row : Nat) : Except HostError Byte :=
  if g.wf = false then .error .configuration
  else if row = 0 then .error .bounds
  else
    match (rowAddressTable g)[row - 1]? with
    | some base => .ok base
    | none => .error .bounds

/-- `addressOf(row, column)` (R101). -/
def addressOf (g : Geometry) (row column : Nat) : Except HostError Byte :=
  match rowBase g row with
  | .error e => .error e
  | .ok base =>
    if 1 ≤ column ∧ column ≤ g.columns then .ok (base + BitVec.ofNat 8 (column - 1)) else .error .bounds

/-- `GOTO row, column` (R102). -/
def pseudoGoto (g : Geometry) (row column : Nat) : Except HostError (List Instr) :=
  match addressOf g row column with
  | .error e => .error e
  | .ok a => .ok [.cmd (0x80 ||| a)]

/-- `PLACECHAR c, row, column`, `code` being the character's code (R103). -/
def pseudoPlaceChar (g : Geometry) (code : Byte) (row column : Nat) : Except HostError (List Instr) :=
  match pseudoGoto g row column with
  | .error e => .error e
  | .ok is => .ok (is ++ [.data code])

/-- `PLACEROW text, row`, `codes` being the codes of the text's characters (R104). -/
def pseudoPlaceRow (g : Geometry) (codes : List Byte) (row : Nat) : Except HostError (List Instr) :=
  match rowBase g row with
  | .error e => .error e
  | .ok base => .ok (.cmd base :: (codes.take g.columns).map .data)

/-- `CLEAR` (R105). -/
def pseudoClear : List Instr := [.cmd 0x01, .cmd 0x02]

/-- `CLS` (R106). -/
def pseudoCls : List Instr := [.cmd 0x01]

/-- `HOME` (R106). -/
def pseudoHome : List Instr := [.cmd 0x02]

/-- `SETDDRAM a`, for a 7-bit `a` (R106). -/
def pseudoSetDdram (a : BitVec 7) : List Instr := [.cmd (0x80 ||| a.setWidth 8)]

end Sys2Proof.Machine
end

