-- ==== Sys2Proof/Safety.lean ====
section
/-! DEFINITION. What a safe state and a safe run are, in the terms the statements use: the invariant (R9, R213), runs without
reset, the answers a run has seen, and schedules of inputs. -/

namespace Sys2Proof.Machine

/-- The invariant: a well-formed configuration (R9) and a state of R213. -/
abbrev State.Inv (s : State) : Prop := s.cfg.wf = true ∧ s.legal = true

/-- `k` edges of the machine. -/
abbrev run (k : Nat) (s : State) : Host.Outcome State Fault Refusal := Host.Core.run Sys2Proof.core k s

/-- Reset is not asserted at any of the next `k` edges. -/
abbrev State.noReset (k : Nat) (s : State) : Prop := ∀ e ∈ s.inputs.take k, e.rst = false

/-- The request port carries the request `i` at this edge. -/
abbrev In.presents (e : In) (i : Instr) : Prop := e.reqValid = true ∧ decodeReq e.reqOp e.reqArg = i

/-- The answer a write in flight gets at the coming edge, if any (R52, R56). -/
def State.answerNow (s : State) : Option Answer :=
  if s.busValid then s.nextIn.busAnswer else if s.dumpValid then s.nextIn.dumpAnswer else none

/-- The answers of the sinks that `k` edges from `s` see, in order. -/
def answersSeen : Nat → State → List Answer
  | 0, _ => []
  | k + 1, s =>
    match step s with
    | .next s' => s.answerNow.toList ++ answersSeen k s'
    | _ => []

/-- The list an accepted request emits (R124): `bl` is the value acceptance leaves, the new one for BL (R160). -/
def State.blAfter (i : Instr) (s : State) : Bool :=
  match i with
  | .bl a => onBit a
  | .init _ | .cmd _ | .data _ | .dumpOn _ | .dumpOff _ | .recover _ | .reserved7 _ => s.bl

/-- The emission list of a request accepted in `s` (R124). -/
def State.listOf (i : Instr) (s : State) : List Byte := emitList s.cfg i.op i.arg (s.blAfter i)

/-- The request passes the acceptance checks and emits: INIT when not faulted; CMD, DATA, BL when not faulted and
initialised (R194, R243). -/
abbrev State.emitsOn (i : Instr) (s : State) : Prop :=
  emits i.op = true ∧ s.fault = false ∧ (i.op = opInit ∨ s.inited = true)

/-- The state in which an operation of the request `i`, accepted in `s`, has ended with status `st` after the events `es`, the
request port idle again and `rest` the coming edges. -/
def State.endOf (i : Instr) (st : Status) (es : List Event) (rest : List In) (s : State) : State :=
  { s with
    seq := .idle
    opQ := i.op
    argQ := i.arg
    bl := s.blAfter i
    lastStatus := st.code
    inputs := rest
    trace := s.trace ++ es ++ [.done i.op st] }

/-- A byte the block can emit: nibble, backlight, enable and register-select fields only (R84). -/
def emittable (c : Cfg) (v : Byte) : Prop :=
  ∃ (n : Nibble) (rs bl en : Bool), v = frame c n rs bl ||| (if en then c.enBit else 0)

/-- An event carries a byte the block can emit, or none. -/
def Event.emittable (c : Cfg) : Event → Prop
  | .busWrite v | .busFail v | .dumpWrite v | .dumpFail v => Machine.emittable c v
  | .done _ _ => True

/-- An edge that answers nothing and resets nothing; the request port is left open. -/
abbrev In.silent (e : In) : Prop := e.rst = false ∧ e.busAnswer = none ∧ e.dumpAnswer = none

/-- An edge at which the transport answers `r`. -/
def In.bus (r : Answer) : In :=
  match r with
  | .ok => { In.quiet with busDone := true }
  | .fail => { In.quiet with busFail := true }

/-- An edge at which the sink answers `r`. -/
def In.dump (r : Answer) : In :=
  match r with
  | .ok => { In.quiet with dumpDone := true }
  | .fail => { In.quiet with dumpFail := true }

/-- The edges of physical writes all answered `ok` and of their settle delays, the `j`-th write answered after `w[j]` edges of
waiting (`a_j = w[j] + 1` in R290). -/
def physicalEdges (ticks : Nat) : List Nat → List In
  | [] => []
  | w :: ws => List.replicate w In.quiet ++ [In.bus .ok] ++ List.replicate ticks In.quiet ++ physicalEdges ticks ws

/-- The edges of dump writes all answered `ok`, the `j`-th after `w[j]` edges of waiting. -/
def dumpEdges : List Nat → List In
  | [] => []
  | w :: ws => List.replicate w In.quiet ++ [In.dump .ok] ++ dumpEdges ws

end Sys2Proof.Machine
end

