-- ==== Sys2Proof/Certificates/Slice0/Obligations.lean ====
section
/-! DEFINITION. The statements for the provers. Each docstring names the rule of spec/ it formalises. -/

open Sys2Proof Sys2Proof.Machine

/-! Reset (R45, R270). -/

/-- R270: at an edge with `rst = 1`, whatever the state and the other inputs, every state element takes its reset value, and
nothing is emitted, no completion pulsed and no event recorded; the state stays there while `rst` stays 1, and the first
edge with `rst = 0` is an ordinary `IDLE` step. That the configuration and the coming edges are kept is the model's carrying
of them (log entries 1, 2); what becomes of the trace is in TraceGrowsByTheSelectedWrite and ResetAbandonsOperation. -/
def Obligations.ResetEdgeGivesResetState : Prop :=
  ∀ s : State, s.cfg.wf = true → s.nextIn.rst = true →
    ∃ t, step s = .next t ∧
      t = { cfg := s.cfg, seq := .idle, opQ := 0, argQ := 0, ptr := ⟨0, false, 0⟩, dly := 0, bl := s.cfg.blReset,
            dump := false, inited := false, fault := false, cause := 0, dumpWarn := false, lastStatus := 0,
            inputs := s.inputs.tail, trace := t.trace } ∧
      t.trace <+: s.trace ∧ t.outputs.busValid = false ∧ t.outputs.dumpValid = false ∧ t.outputs.done = false ∧
      (t.nextIn.rst = true → step t = .next { t with inputs := t.inputs.tail }) ∧
      (t.nextIn.rst = false → t.nextIn.reqValid = false → step t = .next { t with inputs := t.inputs.tail }) ∧
      (t.nextIn.rst = false → t.nextIn.reqValid = true →
        step t = exec (decodeReq t.nextIn.reqOp t.nextIn.reqArg) { t with inputs := t.inputs.tail })

/-- R45: the value of every state element and of every output after reset, under every configuration. -/
def Obligations.ResetStateHoldsSpecValues : Prop :=
  ∀ c : Cfg, let s := State.resetWith c
    s.seq = .idle ∧ s.opQ = 0 ∧ s.argQ = 0x00 ∧ s.ptr = ⟨0, false, 0⟩ ∧ s.dly = 0 ∧ s.bl = c.blReset ∧
    s.dump = false ∧ s.inited = false ∧ s.fault = false ∧ s.cause = 0 ∧ s.dumpWarn = false ∧ s.lastStatus = 0 ∧
    s.outputs.reqReady = true ∧ s.outputs.done = false ∧ s.outputs.busValid = false ∧ s.outputs.dumpValid = false ∧
    s.outputs.status = 0 ∧ s.outputs.stat = 0b00#2 ++ BitVec.ofBool c.blReset ++ 0b00000#5

/-- R9, R213: the reset state of every well-formed configuration meets the invariant; so does the machine's own reset state,
that of `CfgRef` (the model's choice of a configuration, log entry 6). -/
def Obligations.ResetStateMeetsInv : Prop :=
  (∀ c : Cfg, c.wf = true → (State.resetWith c).Inv) ∧ State.reset = State.resetWith cfgRef ∧ State.reset.Inv

/-! The invariant of R213. -/

/-- R213 (derived there): the invariant is kept by every step, from every state that meets it. -/
def Obligations.StepKeepsInv : Prop :=
  ∀ s t : State, s.Inv → step s = .next t → t.Inv

/-- R191, R205: in a state of the invariant every edge has a next state: the machine never stops. -/
def Obligations.MachineNeverStops : Prop :=
  ∀ s : State, s.Inv → ∃ t, step s = .next t

/-- R9, R25, U18, U19: outside the invariant, and not reset, no state is given a meaning; an ill-formed configuration has
none at all. -/
def Obligations.OutsideInvNothingRuns : Prop :=
  ∀ s : State,
    (s.cfg.wf = false → step s = .refused .illFormedCfg) ∧
    (s.cfg.wf = true → s.nextIn.rst = false → s.legal = false → step s = .refused .unreachableState)

/-! Acceptance (R193, R194, R242, R243). -/

/-- R193: an idle block without a request does not change; a request presented to an idle block is run, by its decoded
instruction; in every other state `req_ready` is 0 and the request port is ignored. -/
def Obligations.RequestIsRunWhenIdle : Prop :=
  ∀ s : State, s.Inv → s.nextIn.rst = false →
    (s.seq = .idle → s.outputs.reqReady = true ∧
      (s.nextIn.reqValid = false → step s = .next { s with inputs := s.inputs.tail }) ∧
      (∀ i, s.nextIn.reqValid = true → decodeReq s.nextIn.reqOp s.nextIn.reqArg = i →
        step s = exec i { s with inputs := s.inputs.tail })) ∧
    (s.seq ≠ .idle → s.outputs.reqReady = false ∧
      ∀ (v : Bool) (op : OpCode) (arg : Byte),
        step { s with inputs := { s.nextIn with reqValid := v, reqOp := op, reqArg := arg } :: s.inputs.tail } = step s)

/-- The host's fetch question: from an idle state, the state with a request word on the port steps as the instruction the
decoder reads from that word. -/
def Obligations.FetchedWordIsRun : Prop :=
  ∀ (s : State) (w : Nat) (i : Instr), s.Inv → s.seq = .idle → decodeTableWord 16 w = some i →
    step (s.withFetchWord 16 w) = exec i s

/-- R194, R243: what acceptance does, for each operation, in the order of decision of the rule. `done` is `complete(st)` of
R204 after the latches. -/
def Obligations.AcceptanceInOrderOfDecision : Prop :=
  ∀ (s : State) (a : Byte), s.seq = .idle →
    let latched (op : OpCode) : State := { s with opQ := op, argQ := a }
    let done (t : State) (st : Status) : State :=
      { t with lastStatus := st.code, ptr := ⟨0, false, 0⟩, dly := 0, seq := .fin, trace := t.trace ++ [.done t.opQ st] }
    let emit (t : State) (p : Ptr) : State := { t with ptr := p, seq := .emit }
    exec (.reserved7 a) s = .next (done (latched 7) .eIllegal) ∧
    (s.fault = true →
      exec (.init a) s = .next (done (latched 0) .eFaulted) ∧ exec (.cmd a) s = .next (done (latched 1) .eFaulted) ∧
      exec (.data a) s = .next (done (latched 2) .eFaulted) ∧ exec (.bl a) s = .next (done (latched 3) .eFaulted) ∧
      exec (.dumpOn a) s = .next (done (latched 4) .eFaulted) ∧
      exec (.dumpOff a) s = .next (done (latched 5) .eFaulted)) ∧
    (s.fault = false → s.inited = false →
      exec (.cmd a) s = .next (done (latched 1) .eNotInit) ∧ exec (.data a) s = .next (done (latched 2) .eNotInit) ∧
      exec (.bl a) s = .next (done (latched 3) .eNotInit)) ∧
    (s.fault = false →
      exec (.init a) s = .next (emit { latched 0 with inited := false } ⟨0, s.cfg.wakeForm == .nibble, 0⟩) ∧
      exec (.dumpOn a) s = .next (done { latched 4 with dump := true, dumpWarn := false } .ok) ∧
      exec (.dumpOff a) s = .next (done { latched 5 with dump := false } .ok)) ∧
    (s.fault = false → s.inited = true →
      exec (.cmd a) s = .next (emit (latched 1) ⟨0, false, 0⟩) ∧ exec (.data a) s = .next (emit (latched 2) ⟨0, false, 0⟩) ∧
      exec (.bl a) s = .next (emit { latched 3 with bl := a.getLsbD 0 } ⟨0, false, 0⟩)) ∧
    exec (.recover a) s = .next (done { latched 6 with fault := false, cause := 0 } .ok)

/-- R193, R281: presented to a block that is not idle, a request of any kind changes nothing. -/
def Obligations.BusyBlockIgnoresRequests : Prop :=
  ∀ (i : Instr) (s : State), s.seq ≠ .idle → exec i s = .next s

/-- R239, R240, R241, R242: a refused request writes `op_q`, `arg_q` and `last_status` and nothing else, emits nothing, pulses
`done` with its code, and one edge later the block is ready again. -/
def Obligations.RefusalChangesNothingElse : Prop :=
  ∀ (i : Instr) (s : State) (st : Status), s.Inv → s.seq = .idle → s.nextIn.rst = false →
    ((st = .eIllegal ∧ i.op = opReserved7) ∨
     (st = .eFaulted ∧ s.fault = true ∧ i.op ≠ opRecover ∧ i.op ≠ opReserved7) ∨
     (st = .eNotInit ∧ s.fault = false ∧ s.inited = false ∧ (i.op = opCmd ∨ i.op = opData ∨ i.op = opBl))) →
    ∃ t, exec i s = .next t ∧
      t = { s with opQ := i.op, argQ := i.arg, lastStatus := st.code, seq := .fin, trace := s.trace ++ [.done i.op st] } ∧
      t.outputs.done = true ∧ t.outputs.status = st.code ∧ t.outputs.busValid = false ∧ t.outputs.dumpValid = false ∧
      run 1 t = .next { t with seq := .idle, inputs := s.inputs.tail } ∧
      ({ t with seq := .idle, inputs := s.inputs.tail } : State).outputs.reqReady = true

/-- R170, R173, R176, R180: DUMP_ON, DUMP_OFF (with `E_FAULTED` when faulted), RECOVER and the reserved operation, under the
request words of the rules, complete one cycle after acceptance without a write to either port: the whole state they leave,
hence their frame. -/
def Obligations.SystemRequestsComplete : Prop :=
  ∀ (s : State) (a : Byte), s.Inv → s.seq = .idle → s.nextIn.rst = false →
    let fin (t : State) (op : OpCode) (st : Status) : State :=
      { t with opQ := op, argQ := a, lastStatus := st.code, seq := .fin, trace := s.trace ++ [.done op st] }
    let idle (t : State) : State := { t with seq := .idle, inputs := s.inputs.tail }
    let completes (w : Word) (i : Instr) (t : State) : Prop :=
      decodeWord w = i ∧ exec i s = .next t ∧ t.outputs.done = true ∧ t.outputs.busValid = false ∧
      t.outputs.dumpValid = false ∧ run 1 t = .next (idle t)
    (s.fault = false → completes (4#3 ++ a) (.dumpOn a) (fin { s with dump := true, dumpWarn := false } 4 .ok)) ∧
    (s.fault = true → completes (4#3 ++ a) (.dumpOn a) (fin s 4 .eFaulted)) ∧
    (s.fault = false → completes (5#3 ++ a) (.dumpOff a) (fin { s with dump := false } 5 .ok)) ∧
    (s.fault = true → completes (5#3 ++ a) (.dumpOff a) (fin s 5 .eFaulted)) ∧
    completes (6#3 ++ a) (.recover a) (fin { s with fault := false, cause := 0 } 6 .ok) ∧
    completes (7#3 ++ a) (.reserved7 a) (fin s 7 .eIllegal)

/-! The sequencer, one edge at a time (R196, R197, R199, R201, R247). -/

/-- R196: an edge in `EMIT` with `dump = 0`. -/
def Obligations.PhysicalWriteEdge : Prop :=
  ∀ s : State, s.Inv → s.seq = .emit → s.dump = false → s.nextIn.rst = false →
    let p : State := { s with inputs := s.inputs.tail }
    let written : State := { p with trace := s.trace ++ [.busWrite s.curByte] }
    s.outputs.busValid = true ∧ s.outputs.busByte = some s.curByte ∧
    (s.nextIn.busFail = true →
      step s = .next { p with
        fault := true, cause := 1, lastStatus := 1, ptr := ⟨0, false, 0⟩, dly := 0, seq := .fin,
        trace := s.trace ++ [.busFail s.curByte, .done s.opQ .eTransport] }) ∧
    (s.nextIn.busFail = false → s.nextIn.busDone = true → 0 < s.cfg.settleTicks →
      step s = .next { written with dly := s.cfg.settleTicks, seq := .settle }) ∧
    (s.nextIn.busFail = false → s.nextIn.busDone = true → s.cfg.settleTicks = 0 → step s = .next written.advance) ∧
    (s.nextIn.busFail = false → s.nextIn.busDone = false → step s = .next p)

/-- R197: an edge in `EMIT` with `dump = 1`; a DumpSinkError restarts the operation on the physical bus, where its first byte is
presented in the next cycle. -/
def Obligations.DumpWriteEdge : Prop :=
  ∀ s : State, s.Inv → s.seq = .emit → s.dump = true → s.nextIn.rst = false →
    let p : State := { s with inputs := s.inputs.tail }
    s.outputs.dumpValid = true ∧ s.outputs.dumpByte = some s.curByte ∧
    (s.nextIn.dumpFail = true →
      ∃ t, step s = .next t ∧
        t = { p with
          dump := false, dumpWarn := true, ptr := startPtr s.cfg s.opQ, trace := s.trace ++ [.dumpFail s.curByte] } ∧
        t.outputs.busValid = true ∧ t.outputs.busByte = (emitList s.cfg s.opQ s.argQ s.bl).head?) ∧
    (s.nextIn.dumpFail = false → s.nextIn.dumpDone = true →
      step s = .next ({ p with trace := s.trace ++ [.dumpWrite s.curByte] } : State).advance) ∧
    (s.nextIn.dumpFail = false → s.nextIn.dumpDone = false → step s = .next p)

/-- R200, R204: `advance()` presents the next emission, or ends the operation with `OK`, setting `inited` for INIT. -/
def Obligations.AdvanceOrComplete : Prop :=
  ∀ s : State,
    (∀ p, nextPtr s.cfg s.opQ s.ptr = some p → s.advance = { s with ptr := p, seq := .emit }) ∧
    (nextPtr s.cfg s.opQ s.ptr = none →
      s.advance = { s with
        inited := if s.opQ = 0 then true else s.inited
        lastStatus := 0, ptr := ⟨0, false, 0⟩, dly := 0, seq := .fin, trace := s.trace ++ [.done s.opQ .ok] })

/-- R126, R199: the settle delay lasts exactly the cycles the counter holds, during which neither port is valid, no request is
accepted and nothing but the counter changes; then the sequencer advances. -/
def Obligations.SettleLastsItsTicks : Prop :=
  ∀ s : State, s.Inv → s.seq = .settle → s.noReset s.dly →
    (∀ k, k < s.dly → ∃ t, run k s = .next t ∧ t = { s with dly := s.dly - k, inputs := s.inputs.drop k } ∧
      t.outputs.busValid = false ∧ t.outputs.dumpValid = false ∧ t.outputs.reqReady = false) ∧
    run s.dly s = .next ({ s with dly := 0, inputs := s.inputs.drop s.dly } : State).advance

/-- R201: `FIN` lasts one cycle, in which `done` is 1 and `status` shows the code of the completed request. -/
def Obligations.FinLastsOneCycle : Prop :=
  ∀ s : State, s.Inv → s.seq = .fin → s.nextIn.rst = false →
    s.outputs.done = true ∧ s.outputs.status = s.lastStatus ∧
    step s = .next { s with seq := .idle, inputs := s.inputs.tail } ∧
    ({ s with seq := .idle, inputs := s.inputs.tail } : State).outputs.done = false

/-- R247: taking a TransportError saves `fault = 1`, `cause = 1`, `last_status = 1` and nothing else: no pointer, no byte; the
latches keep the aborted request, and control goes to `FIN`, then to `IDLE`. -/
def Obligations.TransportErrorEntry : Prop :=
  ∀ s : State, s.Inv → s.seq = .emit → s.dump = false → s.noReset 2 → s.nextIn.busFail = true →
    ∃ t, step s = .next t ∧ t.seq = .fin ∧ t.fault = true ∧ t.cause = 1 ∧ t.lastStatus = 1 ∧
      t.ptr = ⟨0, false, 0⟩ ∧ t.dly = 0 ∧ t.opQ = s.opQ ∧ t.argQ = s.argQ ∧ t.bl = s.bl ∧ t.dump = s.dump ∧
      t.inited = s.inited ∧ t.dumpWarn = s.dumpWarn ∧
      run 2 s = .next { t with seq := .idle, inputs := s.inputs.drop 2 }

/-- R33, R204: an edge that enters `FIN` writes `last_status` and records `Done` with the same code for the request in the
latches, with the pointer and the counter cleared; reset clears it; every other edge leaves it. It is what `status` shows,
and the five codes are 0 to 4. -/
def Obligations.CompletionRecordsStatus : Prop :=
  (∀ s t : State, s.Inv → step s = .next t →
    t.outputs.status = t.lastStatus ∧
    (s.nextIn.rst = true → t.lastStatus = 0) ∧
    (s.nextIn.rst = false → t.seq = .fin → t.ptr = ⟨0, false, 0⟩ ∧ t.dly = 0 ∧
      ∃ st es, t.lastStatus = st.code ∧ t.trace = s.trace ++ es ++ [.done t.opQ st] ∧ es.length ≤ 1) ∧
    (s.nextIn.rst = false → t.seq ≠ .fin →
      t.lastStatus = s.lastStatus ∧ ∀ op st, .done op st ∉ t.trace.drop s.trace.length)) ∧
  Status.ok.code = 0 ∧ Status.eTransport.code = 1 ∧ Status.eNotInit.code = 2 ∧ Status.eFaulted.code = 3 ∧
  Status.eIllegal.code = 4

/-! Whole operations on the clocked machine. -/

/-- R127, R134, R140, R150, R152, R160, R290: INIT, CMD, DATA and BL in physical mode, every write answered `ok` after any wait:
acceptance, then the whole emission list on the bus in order, each write followed by its settle delay, then `Done(op, OK)`;
the number of cycles, and the whole state left (hence the frame). -/
def Obligations.PhysicalOperationCompletes : Prop :=
  ∀ (i : Instr) (s : State) (waits : List Nat) (rest : List In),
    s.Inv → s.seq = .idle → s.emitsOn i → s.dump = false → waits.length = (s.listOf i).length →
    s.inputs = physicalEdges s.cfg.settleTicks waits ++ In.quiet :: rest →
    ∃ t, exec i s = .next t ∧
      run ((waits.map (· + 1)).sum + waits.length * s.cfg.settleTicks + 1) t =
        .next { s.endOf i .ok ((s.listOf i).map .busWrite) rest with inited := true }

/-- R57, R127, R134, R290: the same operations in dump mode: the same list goes to the DUMP port, nothing to the bus, and there
is no settle delay. -/
def Obligations.DumpOperationCompletes : Prop :=
  ∀ (i : Instr) (s : State) (waits : List Nat) (rest : List In),
    s.Inv → s.seq = .idle → s.emitsOn i → s.dump = true → waits.length = (s.listOf i).length →
    s.inputs = dumpEdges waits ++ In.quiet :: rest →
    ∃ t, exec i s = .next t ∧
      run ((waits.map (· + 1)).sum + 1) t =
        .next { s.endOf i .ok ((s.listOf i).map .dumpWrite) rest with inited := true }

/-- R232, R233, R234, R290: the transport fails the `k`-th write: exactly the writes before it were made, the operation ends with
`E_TRANSPORT`, `fault` and `cause` are set, and what acceptance wrote stays (`bl` of a BL, `inited = 0` of an INIT). -/
def Obligations.TransportErrorAborts : Prop :=
  ∀ (i : Instr) (s : State) (waits : List Nat) (w : Nat) (v : Byte) (rest : List In),
    s.Inv → s.seq = .idle → s.emitsOn i → s.dump = false → (s.listOf i)[waits.length]? = some v →
    s.inputs = physicalEdges s.cfg.settleTicks waits ++ List.replicate w In.quiet ++ In.bus .fail :: In.quiet :: rest →
    ∃ t, exec i s = .next t ∧
      run ((waits.map (· + 1)).sum + (w + 1) + waits.length * s.cfg.settleTicks + 1) t =
        .next { s.endOf i .eTransport (((s.listOf i).take waits.length).map .busWrite ++ [.busFail v]) rest with
          inited := decide (i.op ≠ opInit), fault := true, cause := 1 }

/-- R236, R237, R290: the sink fails the `k`-th dump write: the records before it stay in the log, dump mode is left with a
warning, and the whole list is emitted on the physical bus; the operation ends with `OK`. -/
def Obligations.DumpSinkErrorRestarts : Prop :=
  ∀ (i : Instr) (s : State) (waits : List Nat) (w : Nat) (v : Byte) (waits' : List Nat) (rest : List In),
    s.Inv → s.seq = .idle → s.emitsOn i → s.dump = true → (s.listOf i)[waits.length]? = some v →
    waits'.length = (s.listOf i).length →
    s.inputs = dumpEdges waits ++ List.replicate w In.quiet ++ In.dump .fail ::
      (physicalEdges s.cfg.settleTicks waits' ++ In.quiet :: rest) →
    ∃ t, exec i s = .next t ∧
      run ((waits.map (· + 1)).sum + (w + 1) + (waits'.map (· + 1)).sum + waits'.length * s.cfg.settleTicks + 1) t =
        .next { s.endOf i .ok
            (((s.listOf i).take waits.length).map .dumpWrite ++ [.dumpFail v] ++ (s.listOf i).map .busWrite) rest with
          inited := true, dump := false, dumpWarn := true }

/-- R212 (derived there): from an idle state, for every request and every stream of inputs without reset, the clocked machine and
the operation level agree: when the request has completed they have left the same state and the same trace, and while a
write is awaited the operation level hangs on the answers so far, in the same state. -/
def Obligations.ClockedMachineAgreesWithOperations : Prop :=
  ∀ (i : Instr) (s u : State) (k : Nat),
    s.Inv → s.seq = .idle → s.nextIn.presents i → s.noReset k → 0 < k →
    (∀ m v, 0 < m → m < k → run m s = .next v → v.seq ≠ .idle) → run k s = .next u →
    ((u.seq = .fin ∨ u.seq = .idle) →
      perform i (answersSeen k s) s = .completed { u with seq := .idle, inputs := s.inputs } []) ∧
    (u.seq = .emit →
      perform i (answersSeen k s) s = .hang { u with seq := .idle, ptr := ⟨0, false, 0⟩, inputs := s.inputs })

/-- R211: under the assumption that every write is answered, by `ok` or by `fail`, at its first edge, every accepted request
completes within a bounded number of edges: at most two passes over its list, one without and one with settle delays. -/
def Obligations.AnsweredRequestsComplete : Prop :=
  ∀ (i : Instr) (s : State) (n : Nat),
    n = (s.listOf i).length + (s.listOf i).length * (1 + s.cfg.settleTicks) + 2 →
    s.Inv → s.seq = .idle → s.nextIn.presents i → s.noReset n → n ≤ s.inputs.length →
    (∀ e ∈ s.inputs.take n, e.busAnswer ≠ none ∧ e.dumpAnswer ≠ none) →
    ∃ k u st es, 0 < k ∧ k ≤ n ∧ run k s = .next u ∧ u.seq = .idle ∧ u.trace = s.trace ++ es ++ [.done i.op st]

/-- R52, R56, R211: a write that is not answered keeps the machine in `EMIT`, with its byte presented, unchanged, for as long as
no answer and no reset comes. -/
def Obligations.UnansweredWriteWaits : Prop :=
  ∀ (s : State) (k : Nat), s.Inv → s.seq = .emit → (∀ e ∈ s.inputs.take k, e.silent) →
    ∃ t, run k s = .next t ∧ t = { s with inputs := s.inputs.drop k } ∧ t.outputs = s.outputs

/-- R193, R196, R197, R199, R201, R244, U14: the inputs that have an effect: `rst` always; the request port in `IDLE` only, and
there its operation and argument only with `req_valid`; in `EMIT` the answers of the port `dump` selects. -/
def Obligations.UnselectedInputsHaveNoEffect : Prop :=
  ∀ (s : State) (e e' : In) (rest : List In), e.rst = e'.rst →
    ((s.seq = .idle ∧ e.reqValid = e'.reqValid ∧ (e.reqValid = true → e.reqOp = e'.reqOp ∧ e.reqArg = e'.reqArg)) ∨
     (s.seq = .emit ∧ s.dump = false ∧ e.busDone = e'.busDone ∧ e.busFail = e'.busFail) ∨
     (s.seq = .emit ∧ s.dump = true ∧ e.dumpDone = e'.dumpDone ∧ e.dumpFail = e'.dumpFail) ∨
     s.seq = .settle ∨ s.seq = .fin) →
    step { s with inputs := e :: rest } = step { s with inputs := e' :: rest }

/-! Which events write which state: the next value of each register at every edge (R21, R27 to R32). -/

/-- R21: the operand latches are written together, by acceptance (and reset), and by nothing else. -/
def Obligations.LatchWriters : Prop :=
  ∀ s t : State, s.Inv → step s = .next t →
    let accepted := s.seq = .idle ∧ s.nextIn.reqValid = true
    (s.nextIn.rst = true → t.opQ = 0 ∧ t.argQ = 0) ∧
    (s.nextIn.rst = false → accepted → t.opQ = s.nextIn.reqOp ∧ t.argQ = s.nextIn.reqArg) ∧
    (s.nextIn.rst = false → ¬ accepted → t.opQ = s.opQ ∧ t.argQ = s.argQ)

/-- R27: `bl` is written by an accepted BL, `bl <- arg[0]`, and by reset, and by nothing else. -/
def Obligations.BacklightWriters : Prop :=
  ∀ s t : State, s.Inv → step s = .next t →
    let set := s.seq = .idle ∧ s.nextIn.reqValid = true ∧ s.nextIn.reqOp = opBl ∧ s.fault = false ∧ s.inited = true
    (s.nextIn.rst = true → t.bl = s.cfg.blReset) ∧
    (s.nextIn.rst = false → set → t.bl = s.nextIn.reqArg.getLsbD 0) ∧
    (s.nextIn.rst = false → ¬ set → t.bl = s.bl)

/-- R28: `dump` is written by DUMP_ON, DUMP_OFF, a DumpSinkError and reset, and by nothing else. -/
def Obligations.DumpModeWriters : Prop :=
  ∀ s t : State, s.Inv → step s = .next t →
    let on := s.seq = .idle ∧ s.nextIn.reqValid = true ∧ s.nextIn.reqOp = opDumpOn ∧ s.fault = false
    let off := s.seq = .idle ∧ s.nextIn.reqValid = true ∧ s.nextIn.reqOp = opDumpOff ∧ s.fault = false
    let sinkError := s.seq = .emit ∧ s.dump = true ∧ s.nextIn.dumpFail = true
    (s.nextIn.rst = true → t.dump = false) ∧
    (s.nextIn.rst = false → on → t.dump = true) ∧
    (s.nextIn.rst = false → off ∨ sinkError → t.dump = false) ∧
    (s.nextIn.rst = false → ¬ on → ¬ off → ¬ sinkError → t.dump = s.dump)

/-- R29: `inited` is cleared by the acceptance of an INIT and by reset, set when an INIT completes with `OK`, and unchanged by
everything else, a TransportError included. -/
def Obligations.InitedWriters : Prop :=
  ∀ s t : State, s.Inv → step s = .next t →
    let begins := s.seq = .idle ∧ s.nextIn.reqValid = true ∧ s.nextIn.reqOp = opInit ∧ s.fault = false
    let ends := (s.seq = .emit ∨ s.seq = .settle) ∧ s.opQ = opInit ∧ t.seq = .fin ∧ t.lastStatus = 0
    (s.nextIn.rst = true → t.inited = false) ∧
    (s.nextIn.rst = false → begins → t.inited = false) ∧
    (s.nextIn.rst = false → ends → t.inited = true) ∧
    (s.nextIn.rst = false → ¬ begins → ¬ ends → t.inited = s.inited)

/-- R30, R31: `fault` is set by a TransportError, together with `cause = E_TRANSPORT`, and cleared with it by RECOVER and reset,
and by nothing else; `cause` is 1 whenever `fault` is 1 and 0 whenever it is 0. -/
def Obligations.FaultWriters : Prop :=
  ∀ s t : State, s.Inv → step s = .next t →
    let recovers := s.seq = .idle ∧ s.nextIn.reqValid = true ∧ s.nextIn.reqOp = opRecover
    let transportError := s.seq = .emit ∧ s.dump = false ∧ s.nextIn.busFail = true
    (s.nextIn.rst = true ∨ recovers → t.fault = false) ∧
    (s.nextIn.rst = false → transportError → t.fault = true) ∧
    (s.nextIn.rst = false → ¬ recovers → ¬ transportError → t.fault = s.fault) ∧
    (t.fault = true → t.cause = 1) ∧ (t.fault = false → t.cause = 0)

/-- R32: `dump_warn` is set by a DumpSinkError, cleared by an accepted DUMP_ON and by reset, and by nothing else. -/
def Obligations.DumpWarnWriters : Prop :=
  ∀ s t : State, s.Inv → step s = .next t →
    let on := s.seq = .idle ∧ s.nextIn.reqValid = true ∧ s.nextIn.reqOp = opDumpOn ∧ s.fault = false
    let sinkError := s.seq = .emit ∧ s.dump = true ∧ s.nextIn.dumpFail = true
    (s.nextIn.rst = true → t.dumpWarn = false) ∧
    (s.nextIn.rst = false → on → t.dumpWarn = false) ∧
    (s.nextIn.rst = false → sinkError → t.dumpWarn = true) ∧
    (s.nextIn.rst = false → ¬ on → ¬ sinkError → t.dumpWarn = s.dumpWarn)

/-- R57, R64, R67, R135: at every edge but a reset edge the trace only grows, by at most a write and a completion; a write is
recorded only in `EMIT`, of the current byte, on the port `dump` selects; the configuration never changes and one input
edge is used. A reset edge adds no event, and takes none off but, in `FIN`, one `Done` (log entry 20). -/
def Obligations.TraceGrowsByTheSelectedWrite : Prop :=
  ∀ s t : State, s.Inv → step s = .next t →
    t.cfg = s.cfg ∧ t.inputs = s.inputs.tail ∧
    (s.nextIn.rst = true → t.trace = s.trace ∨ s.seq = .fin ∧ ∃ op st, s.trace = t.trace ++ [.done op st]) ∧
    (s.nextIn.rst = false →
      ∃ ws ds, t.trace = s.trace ++ ws ++ ds ∧ ws.length ≤ 1 ∧ ds.length ≤ 1 ∧
        (∀ e ∈ ds, ∃ op st, e = .done op st) ∧
        (∀ e ∈ ws, s.seq = .emit ∧
          (s.dump = false ∧ (e = .busWrite s.curByte ∨ e = .busFail s.curByte) ∨
           s.dump = true ∧ (e = .dumpWrite s.curByte ∨ e = .dumpFail s.curByte))))

/-! Emission lists, pointers and frames (R83, R84, R92, R120 to R130, R132, R142). -/

/-- R92: the length of an emission list is a function of the operation and the configuration alone. -/
def Obligations.EmissionListLengths : Prop :=
  ∀ (c : Cfg) (arg : Byte) (bl : Bool),
    (emitList c opInit arg bl).length = (match c.wakeForm with | .nibble => 36 | .byte => 48) ∧
    (emitList c opCmd arg bl).length = 6 ∧ (emitList c opData arg bl).length = 6 ∧
    (emitList c opBl arg bl).length = 1 ∧ emitList c opDumpOn arg bl = [] ∧ emitList c opDumpOff arg bl = [] ∧
    emitList c opRecover arg bl = [] ∧ emitList c opReserved7 arg bl = []

/-- R128 (derived there): under a well-formed configuration the byte at a legal pointer is the element of the emission list at
the pointer's linear index. -/
def Obligations.CurrentByteIsListElement : Prop :=
  ∀ (c : Cfg) (op : OpCode) (arg : Byte) (bl : Bool) (p : Ptr), c.wf = true → legalPtr c op p = true →
    (emitList c op arg bl)[ptrIndex c op p]? = some (cur c op arg bl p)

/-- R24, R25, R129: the pointer walk of every emitting operation: it starts at index 0, each successor is legal and has the next
index, and it ends exactly at the end of the emission list. -/
def Obligations.PointerWalkFollowsList : Prop :=
  ∀ (c : Cfg) (op : OpCode) (arg : Byte) (bl : Bool), emits op = true →
    legalPtr c op (startPtr c op) = true ∧ ptrIndex c op (startPtr c op) = 0 ∧
    ∀ p, legalPtr c op p = true →
      (∀ q, nextPtr c op p = some q → legalPtr c op q = true ∧ ptrIndex c op q = ptrIndex c op p + 1) ∧
      (nextPtr c op p = none ↔ ptrIndex c op p + 1 = (emitList c op arg bl).length)

/-- R132, R154: in the list of INIT, CMD and DATA the enable bit is set in exactly the middle byte of each group of three; a
control write has it clear. -/
def Obligations.EnableOnMiddleWritesOnly : Prop :=
  ∀ (c : Cfg) (op : OpCode) (arg : Byte) (bl : Bool) (k : Nat) (v : Byte), c.wf = true →
    (emitList c op arg bl)[k]? = some v →
    (op ≠ opBl → (v &&& c.enBit ≠ 0 ↔ k % 3 = 1)) ∧ (op = opBl → v &&& c.enBit = 0)

/-- R83: the `RW` bit is 0 in every byte on either port, in every state of the invariant. -/
def Obligations.ReadWriteBitNeverSet : Prop :=
  ∀ (s : State) (v : Byte), s.Inv → s.outputs.busByte = some v ∨ s.outputs.dumpByte = some v → v &&& s.cfg.rwBit = 0

/-- R84 (derived there): every step keeps the trace free of any byte but those of the emittable set: nibble, backlight, enable and
register-select fields. -/
def Obligations.TraceHoldsOnlyFrames : Prop :=
  ∀ s t : State, s.Inv → (∀ e ∈ s.trace, e.emittable s.cfg) → step s = .next t → ∀ e ∈ t.trace, e.emittable t.cfg

/-- R130 (derived there), R9: under a well-formed configuration every field can be read back from a frame, and the nibble split
loses nothing. -/
def Obligations.FrameFieldsReadBack : Prop :=
  ∀ (c : Cfg) (n : Nibble) (rs bl : Bool) (b : Byte), c.wf = true →
    (frame c n rs bl &&& c.nibMask) >>> c.nibShift = n.setWidth 8 ∧
    (frame c n rs bl &&& c.blBit ≠ 0 ↔ bl = true) ∧ (frame c n rs bl &&& c.rsBit ≠ 0 ↔ rs = true) ∧
    frame c n rs bl &&& c.enBit = 0 ∧ frame c n rs bl &&& c.rwBit = 0 ∧
    frame c n rs bl &&& ~~~c.enBit = frame c n rs bl ∧ hiNibble b ++ loNibble b = b

/-- R120, R121, R122, R123 under `CfgRef`: the arithmetic of the frame, and the bytes of a strobe, a byte transfer and a control
write. -/
def Obligations.ReferenceFrameBytes : Prop :=
  (∀ (n : Nibble) (rs bl : Bool),
    (frame cfgRef n rs bl).toNat = 16 * n.toNat + 8 * bl.toNat + rs.toNat ∧
    strobe cfgRef n rs bl = [frame cfgRef n rs bl, frame cfgRef n rs bl + 4, frame cfgRef n rs bl]) ∧
  byteSeq cfgRef 0x48 true true = [0x49, 0x4D, 0x49, 0x89, 0x8D, 0x89] ∧
  ctl cfgRef true = [0x08] ∧ ctl cfgRef false = [0x00]

/-- R142 (derived there): the 36 bytes of INIT under `CfgRef`. -/
def Obligations.ReferenceInitBytes : Prop :=
  initList cfgRef true =
    [0x38, 0x3C, 0x38, 0x38, 0x3C, 0x38, 0x38, 0x3C, 0x38, 0x28, 0x2C, 0x28] ++
    [0x28, 0x2C, 0x28, 0x88, 0x8C, 0x88, 0x08, 0x0C, 0x08, 0xC8, 0xCC, 0xC8] ++
    [0x08, 0x0C, 0x08, 0x18, 0x1C, 0x18, 0x08, 0x0C, 0x08, 0x68, 0x6C, 0x68] ∧
  initList cfgRef false = (initList cfgRef true).map (· &&& 0xF7)

/-- R57 (derived there), R254: answered `ok` throughout, a request logs in dump mode exactly the bytes it would have put on the
bus, in order and number, and the bus sees none. -/
def Obligations.DumpLogEqualsBusBytes : Prop :=
  ∀ (i : Instr) (s : State) (n : Nat), s.emitsOn i → (s.listOf i).length ≤ n →
    ∃ t u left, perform i (List.replicate n .ok) { s with dump := false } = .completed t left ∧
      perform i (List.replicate n .ok) { s with dump := true } = .completed u left ∧
      ∃ bs, bs.length = (s.listOf i).length ∧
        busBytes t.trace = busBytes s.trace ++ bs ∧ dumpLog t.trace = dumpLog s.trace ∧
        busBytes u.trace = busBytes s.trace ∧ dumpLog u.trace = dumpLog s.trace ++ bs ∧
        u = { t with dump := true, trace := u.trace }

/-! The STATUS word (R34). -/

/-- R34: every bit of the STATUS word; R55 (derived there): the two ports are never valid together. -/
def Obligations.StatusWordBits : Prop :=
  ∀ s : State,
    s.outputs.stat.getLsbD 0 = decide (s.seq ≠ .idle) ∧ s.outputs.stat.getLsbD 1 = s.inited ∧
    s.outputs.stat.getLsbD 2 = s.fault ∧ s.outputs.stat.getLsbD 3 = s.dump ∧ s.outputs.stat.getLsbD 4 = s.dumpWarn ∧
    s.outputs.stat.getLsbD 5 = s.bl ∧ s.outputs.stat.getLsbD 6 = false ∧ s.outputs.stat.getLsbD 7 = false ∧
    (s.outputs.busValid && s.outputs.dumpValid) = false

/-! Encoding (R80, R81, R90). -/

/-- R80, R81, R90: requests and the 2048 request words stand for each other one to one, every argument bit kept, and no other
number of sixteen bits is a request word. -/
def Obligations.RequestWordsAreTheRequests : Prop :=
  (∀ i : Instr, i.wf = true → decodeTableWord 16 (encode i).toNat = some i) ∧
  (∀ w : Nat, w < 2048 → ∃ i, decodeTableWord 16 w = some i ∧ (encode i).toNat = w ∧ i.op = BitVec.ofNat 3 (w / 256) ∧
    i.arg = BitVec.ofNat 8 w) ∧
  (∀ w : Nat, 2048 ≤ w → w < 65536 → decodeTableWord 16 w = none)

/-- R81, R86, R87, R95: words written out from the opcode map and from the examples of R95. -/
def Obligations.WrittenOutWordsDecode : Prop :=
  decodeTableWord 16 0b00000000000 = some (.init 0x00) ∧ decodeTableWord 16 0b00100000001 = some (.cmd 0x01) ∧
  decodeTableWord 16 0b01001001000 = some (.data 0x48) ∧ decodeTableWord 16 0b01100000001 = some (.bl 0x01) ∧
  decodeTableWord 16 0b10000000000 = some (.dumpOn 0x00) ∧ decodeTableWord 16 0b10100000000 = some (.dumpOff 0x00) ∧
  decodeTableWord 16 0b11000000000 = some (.recover 0x00) ∧ decodeTableWord 16 0b11101010101 = some (.reserved7 0x55)

/-! Host-side pseudo-instructions (R100 to R107). -/

/-- R100, R101, R102: for every valid geometry the table has exactly `rows` entries, every address in bounds is the table entry
plus `column - 1` with no overflow and bit 7 set, `GOTO` sends it unchanged, and out of bounds no request is made. -/
def Obligations.RowAddressesAreInRange : Prop :=
  ∀ (g : Geometry) (row column : Nat), g.wf = true →
    (rowAddressTable g).length = g.rows ∧
    (1 ≤ row ∧ row ≤ g.rows ∧ 1 ≤ column ∧ column ≤ g.columns →
      ∃ base a, (rowAddressTable g)[row - 1]? = some base ∧ addressOf g row column = .ok a ∧
        a.toNat = base.toNat + (column - 1) ∧ a.toNat ≤ 0xE7 ∧ a.getLsbD 7 = true ∧
        pseudoGoto g row column = .ok [.cmd (0x80 ||| a)] ∧ 0x80 ||| a = a) ∧
    (¬ (1 ≤ row ∧ row ≤ g.rows ∧ 1 ≤ column ∧ column ≤ g.columns) →
      addressOf g row column = .error .bounds ∧ pseudoGoto g row column = .error .bounds)

/-- R104: `PLACEROW` is the row's base address as one CMD, then one DATA for each character up to the number of columns. -/
def Obligations.PlaceRowExpansion : Prop :=
  ∀ (g : Geometry) (codes : List Byte) (row : Nat), g.wf = true → 1 ≤ row → row ≤ g.rows →
    ∃ base reqs, (rowAddressTable g)[row - 1]? = some base ∧ pseudoPlaceRow g codes row = .ok (.cmd base :: reqs) ∧
      reqs.length = min codes.length g.columns ∧
      ∀ k c, k < g.columns → codes[k]? = some c → reqs[k]? = some (.data c)

/-- R107: the requests `pre` of an expansion having ended with a non-zero status, the host presents no further request, whatever
requests `post` are left; and nothing that is completed is undone: the trace only grows. -/
def Obligations.ExpansionStopsAtFirstError : Prop :=
  ∀ (pre post : List Instr) (answers left : List Answer) (s t : State), pre ≠ [] →
    performUntilError pre answers s = .completed t left →
    (t.lastStatus ≠ 0 → performUntilError (pre ++ post) answers s = .completed t left) ∧
    (t.lastStatus = 0 → performUntilError (pre ++ post) answers s = performUntilError post left t) ∧
    s.trace <+: t.trace

/-! Reset during an operation (R272). -/

/-- R272: reset in `EMIT`, `SETTLE` or `FIN` abandons the operation. In `EMIT` and `SETTLE` the trace gets no event, neither a
`Done` nor one for the write in flight, which is withdrawn. An operation that has just entered `FIN`, from whatever state
and by whatever edge, and is reset there has no `Done` event: of that edge at most its write stays in the trace. In each
case `last_status` is cleared and the block is idle. That a `Done` recorded by R204 is withdrawn again is how the model
reads the two rules together (log entry 20). -/
def Obligations.ResetAbandonsOperation : Prop :=
  (∀ s : State, s.cfg.wf = true → s.nextIn.rst = true → s.seq = .emit ∨ s.seq = .settle →
    ∃ t, step s = .next t ∧ t.seq = .idle ∧ t.lastStatus = 0 ∧ t.outputs.busValid = false ∧
      t.outputs.dumpValid = false ∧ t.trace = s.trace) ∧
  (∀ s u : State, s.Inv → s.nextIn.rst = false → step s = .next u → u.seq = .fin → u.nextIn.rst = true →
    ∃ t ws st, step u = .next t ∧ t.seq = .idle ∧ t.lastStatus = 0 ∧ t.outputs.done = false ∧
      t.trace = s.trace ++ ws ∧ ws.length ≤ 1 ∧ (∀ op st, .done op st ∉ ws) ∧
      u.lastStatus = st.code ∧ u.trace = t.trace ++ [.done u.opQ st])
end

