-- ==== Sys2Proof/Laws/State.lean ====
section
/-! SUPPORT. One lemma for each field of `State` under each named update of it, so that no proof unfolds a record update. -/

namespace Sys2Proof.Machine

/-! Latching a request (R21). -/

@[simp] theorem State.latch_cfg (op : OpCode) (arg : Byte) (s : State) : (s.latch op arg).cfg = s.cfg := rfl
@[simp] theorem State.latch_seq (op : OpCode) (arg : Byte) (s : State) : (s.latch op arg).seq = s.seq := rfl
@[simp] theorem State.latch_opQ (op : OpCode) (arg : Byte) (s : State) : (s.latch op arg).opQ = op := rfl
@[simp] theorem State.latch_argQ (op : OpCode) (arg : Byte) (s : State) : (s.latch op arg).argQ = arg := rfl
@[simp] theorem State.latch_ptr (op : OpCode) (arg : Byte) (s : State) : (s.latch op arg).ptr = s.ptr := rfl
@[simp] theorem State.latch_dly (op : OpCode) (arg : Byte) (s : State) : (s.latch op arg).dly = s.dly := rfl
@[simp] theorem State.latch_bl (op : OpCode) (arg : Byte) (s : State) : (s.latch op arg).bl = s.bl := rfl
@[simp] theorem State.latch_dump (op : OpCode) (arg : Byte) (s : State) : (s.latch op arg).dump = s.dump := rfl
@[simp] theorem State.latch_inited (op : OpCode) (arg : Byte) (s : State) : (s.latch op arg).inited = s.inited := rfl
@[simp] theorem State.latch_fault (op : OpCode) (arg : Byte) (s : State) : (s.latch op arg).fault = s.fault := rfl
@[simp] theorem State.latch_cause (op : OpCode) (arg : Byte) (s : State) : (s.latch op arg).cause = s.cause := rfl
@[simp] theorem State.latch_dumpWarn (op : OpCode) (arg : Byte) (s : State) : (s.latch op arg).dumpWarn = s.dumpWarn := rfl
@[simp] theorem State.latch_lastStatus (op : OpCode) (arg : Byte) (s : State) : (s.latch op arg).lastStatus = s.lastStatus := rfl
@[simp] theorem State.latch_inputs (op : OpCode) (arg : Byte) (s : State) : (s.latch op arg).inputs = s.inputs := rfl
@[simp] theorem State.latch_trace (op : OpCode) (arg : Byte) (s : State) : (s.latch op arg).trace = s.trace := rfl

/-! Recording an event (R14). -/

@[simp] theorem State.record_cfg (e : Event) (s : State) : (s.record e).cfg = s.cfg := rfl
@[simp] theorem State.record_seq (e : Event) (s : State) : (s.record e).seq = s.seq := rfl
@[simp] theorem State.record_opQ (e : Event) (s : State) : (s.record e).opQ = s.opQ := rfl
@[simp] theorem State.record_argQ (e : Event) (s : State) : (s.record e).argQ = s.argQ := rfl
@[simp] theorem State.record_ptr (e : Event) (s : State) : (s.record e).ptr = s.ptr := rfl
@[simp] theorem State.record_dly (e : Event) (s : State) : (s.record e).dly = s.dly := rfl
@[simp] theorem State.record_bl (e : Event) (s : State) : (s.record e).bl = s.bl := rfl
@[simp] theorem State.record_dump (e : Event) (s : State) : (s.record e).dump = s.dump := rfl
@[simp] theorem State.record_inited (e : Event) (s : State) : (s.record e).inited = s.inited := rfl
@[simp] theorem State.record_fault (e : Event) (s : State) : (s.record e).fault = s.fault := rfl
@[simp] theorem State.record_cause (e : Event) (s : State) : (s.record e).cause = s.cause := rfl
@[simp] theorem State.record_dumpWarn (e : Event) (s : State) : (s.record e).dumpWarn = s.dumpWarn := rfl
@[simp] theorem State.record_lastStatus (e : Event) (s : State) : (s.record e).lastStatus = s.lastStatus := rfl
@[simp] theorem State.record_inputs (e : Event) (s : State) : (s.record e).inputs = s.inputs := rfl
@[simp] theorem State.record_trace (e : Event) (s : State) : (s.record e).trace = s.trace ++ [e] := rfl

/-! The end of an operation (R204). -/

@[simp] theorem State.complete_cfg (st : Status) (s : State) : (s.complete st).cfg = s.cfg := rfl
@[simp] theorem State.complete_seq (st : Status) (s : State) : (s.complete st).seq = .fin := rfl
@[simp] theorem State.complete_opQ (st : Status) (s : State) : (s.complete st).opQ = s.opQ := rfl
@[simp] theorem State.complete_argQ (st : Status) (s : State) : (s.complete st).argQ = s.argQ := rfl
@[simp] theorem State.complete_ptr (st : Status) (s : State) : (s.complete st).ptr = Ptr.zero := rfl
@[simp] theorem State.complete_dly (st : Status) (s : State) : (s.complete st).dly = 0 := rfl
@[simp] theorem State.complete_bl (st : Status) (s : State) : (s.complete st).bl = s.bl := rfl
@[simp] theorem State.complete_dump (st : Status) (s : State) : (s.complete st).dump = s.dump := rfl
@[simp] theorem State.complete_inited (st : Status) (s : State) : (s.complete st).inited = s.inited := rfl
@[simp] theorem State.complete_fault (st : Status) (s : State) : (s.complete st).fault = s.fault := rfl
@[simp] theorem State.complete_cause (st : Status) (s : State) : (s.complete st).cause = s.cause := rfl
@[simp] theorem State.complete_dumpWarn (st : Status) (s : State) : (s.complete st).dumpWarn = s.dumpWarn := rfl
@[simp] theorem State.complete_lastStatus (st : Status) (s : State) : (s.complete st).lastStatus = st.code := rfl
@[simp] theorem State.complete_inputs (st : Status) (s : State) : (s.complete st).inputs = s.inputs := rfl
@[simp] theorem State.complete_trace (st : Status) (s : State) : (s.complete st).trace = s.trace ++ [.done s.opQ st] := rfl

/-! Presenting an emission (R194, R200). -/

@[simp] theorem State.present_cfg (p : Ptr) (s : State) : (s.present p).cfg = s.cfg := rfl
@[simp] theorem State.present_seq (p : Ptr) (s : State) : (s.present p).seq = .emit := rfl
@[simp] theorem State.present_opQ (p : Ptr) (s : State) : (s.present p).opQ = s.opQ := rfl
@[simp] theorem State.present_argQ (p : Ptr) (s : State) : (s.present p).argQ = s.argQ := rfl
@[simp] theorem State.present_ptr (p : Ptr) (s : State) : (s.present p).ptr = p := rfl
@[simp] theorem State.present_dly (p : Ptr) (s : State) : (s.present p).dly = s.dly := rfl
@[simp] theorem State.present_bl (p : Ptr) (s : State) : (s.present p).bl = s.bl := rfl
@[simp] theorem State.present_dump (p : Ptr) (s : State) : (s.present p).dump = s.dump := rfl
@[simp] theorem State.present_inited (p : Ptr) (s : State) : (s.present p).inited = s.inited := rfl
@[simp] theorem State.present_fault (p : Ptr) (s : State) : (s.present p).fault = s.fault := rfl
@[simp] theorem State.present_cause (p : Ptr) (s : State) : (s.present p).cause = s.cause := rfl
@[simp] theorem State.present_dumpWarn (p : Ptr) (s : State) : (s.present p).dumpWarn = s.dumpWarn := rfl
@[simp] theorem State.present_lastStatus (p : Ptr) (s : State) : (s.present p).lastStatus = s.lastStatus := rfl
@[simp] theorem State.present_inputs (p : Ptr) (s : State) : (s.present p).inputs = s.inputs := rfl
@[simp] theorem State.present_trace (p : Ptr) (s : State) : (s.present p).trace = s.trace := rfl

/-! Starting the settle delay (R196). -/

@[simp] theorem State.startSettle_cfg (s : State) : (s.startSettle).cfg = s.cfg := rfl
@[simp] theorem State.startSettle_seq (s : State) : (s.startSettle).seq = .settle := rfl
@[simp] theorem State.startSettle_opQ (s : State) : (s.startSettle).opQ = s.opQ := rfl
@[simp] theorem State.startSettle_argQ (s : State) : (s.startSettle).argQ = s.argQ := rfl
@[simp] theorem State.startSettle_ptr (s : State) : (s.startSettle).ptr = s.ptr := rfl
@[simp] theorem State.startSettle_dly (s : State) : (s.startSettle).dly = s.cfg.settleTicks := rfl
@[simp] theorem State.startSettle_bl (s : State) : (s.startSettle).bl = s.bl := rfl
@[simp] theorem State.startSettle_dump (s : State) : (s.startSettle).dump = s.dump := rfl
@[simp] theorem State.startSettle_inited (s : State) : (s.startSettle).inited = s.inited := rfl
@[simp] theorem State.startSettle_fault (s : State) : (s.startSettle).fault = s.fault := rfl
@[simp] theorem State.startSettle_cause (s : State) : (s.startSettle).cause = s.cause := rfl
@[simp] theorem State.startSettle_dumpWarn (s : State) : (s.startSettle).dumpWarn = s.dumpWarn := rfl
@[simp] theorem State.startSettle_lastStatus (s : State) : (s.startSettle).lastStatus = s.lastStatus := rfl
@[simp] theorem State.startSettle_inputs (s : State) : (s.startSettle).inputs = s.inputs := rfl
@[simp] theorem State.startSettle_trace (s : State) : (s.startSettle).trace = s.trace := rfl

/-! The flags of a TransportError (R232). -/

@[simp] theorem State.setFault_cfg (s : State) : (s.setFault).cfg = s.cfg := rfl
@[simp] theorem State.setFault_seq (s : State) : (s.setFault).seq = s.seq := rfl
@[simp] theorem State.setFault_opQ (s : State) : (s.setFault).opQ = s.opQ := rfl
@[simp] theorem State.setFault_argQ (s : State) : (s.setFault).argQ = s.argQ := rfl
@[simp] theorem State.setFault_ptr (s : State) : (s.setFault).ptr = s.ptr := rfl
@[simp] theorem State.setFault_dly (s : State) : (s.setFault).dly = s.dly := rfl
@[simp] theorem State.setFault_bl (s : State) : (s.setFault).bl = s.bl := rfl
@[simp] theorem State.setFault_dump (s : State) : (s.setFault).dump = s.dump := rfl
@[simp] theorem State.setFault_inited (s : State) : (s.setFault).inited = s.inited := rfl
@[simp] theorem State.setFault_fault (s : State) : (s.setFault).fault = true := rfl
@[simp] theorem State.setFault_cause (s : State) : (s.setFault).cause = Status.eTransport.code := rfl
@[simp] theorem State.setFault_dumpWarn (s : State) : (s.setFault).dumpWarn = s.dumpWarn := rfl
@[simp] theorem State.setFault_lastStatus (s : State) : (s.setFault).lastStatus = s.lastStatus := rfl
@[simp] theorem State.setFault_inputs (s : State) : (s.setFault).inputs = s.inputs := rfl
@[simp] theorem State.setFault_trace (s : State) : (s.setFault).trace = s.trace := rfl

/-! The flags RECOVER clears (R176). -/

@[simp] theorem State.clearFault_cfg (s : State) : (s.clearFault).cfg = s.cfg := rfl
@[simp] theorem State.clearFault_seq (s : State) : (s.clearFault).seq = s.seq := rfl
@[simp] theorem State.clearFault_opQ (s : State) : (s.clearFault).opQ = s.opQ := rfl
@[simp] theorem State.clearFault_argQ (s : State) : (s.clearFault).argQ = s.argQ := rfl
@[simp] theorem State.clearFault_ptr (s : State) : (s.clearFault).ptr = s.ptr := rfl
@[simp] theorem State.clearFault_dly (s : State) : (s.clearFault).dly = s.dly := rfl
@[simp] theorem State.clearFault_bl (s : State) : (s.clearFault).bl = s.bl := rfl
@[simp] theorem State.clearFault_dump (s : State) : (s.clearFault).dump = s.dump := rfl
@[simp] theorem State.clearFault_inited (s : State) : (s.clearFault).inited = s.inited := rfl
@[simp] theorem State.clearFault_fault (s : State) : (s.clearFault).fault = false := rfl
@[simp] theorem State.clearFault_cause (s : State) : (s.clearFault).cause = 0 := rfl
@[simp] theorem State.clearFault_dumpWarn (s : State) : (s.clearFault).dumpWarn = s.dumpWarn := rfl
@[simp] theorem State.clearFault_lastStatus (s : State) : (s.clearFault).lastStatus = s.lastStatus := rfl
@[simp] theorem State.clearFault_inputs (s : State) : (s.clearFault).inputs = s.inputs := rfl
@[simp] theorem State.clearFault_trace (s : State) : (s.clearFault).trace = s.trace := rfl

/-! The flags of a DumpSinkError (R236). -/

@[simp] theorem State.warnDump_cfg (s : State) : (s.warnDump).cfg = s.cfg := rfl
@[simp] theorem State.warnDump_seq (s : State) : (s.warnDump).seq = s.seq := rfl
@[simp] theorem State.warnDump_opQ (s : State) : (s.warnDump).opQ = s.opQ := rfl
@[simp] theorem State.warnDump_argQ (s : State) : (s.warnDump).argQ = s.argQ := rfl
@[simp] theorem State.warnDump_ptr (s : State) : (s.warnDump).ptr = s.ptr := rfl
@[simp] theorem State.warnDump_dly (s : State) : (s.warnDump).dly = s.dly := rfl
@[simp] theorem State.warnDump_bl (s : State) : (s.warnDump).bl = s.bl := rfl
@[simp] theorem State.warnDump_dump (s : State) : (s.warnDump).dump = false := rfl
@[simp] theorem State.warnDump_inited (s : State) : (s.warnDump).inited = s.inited := rfl
@[simp] theorem State.warnDump_fault (s : State) : (s.warnDump).fault = s.fault := rfl
@[simp] theorem State.warnDump_cause (s : State) : (s.warnDump).cause = s.cause := rfl
@[simp] theorem State.warnDump_dumpWarn (s : State) : (s.warnDump).dumpWarn = true := rfl
@[simp] theorem State.warnDump_lastStatus (s : State) : (s.warnDump).lastStatus = s.lastStatus := rfl
@[simp] theorem State.warnDump_inputs (s : State) : (s.warnDump).inputs = s.inputs := rfl
@[simp] theorem State.warnDump_trace (s : State) : (s.warnDump).trace = s.trace := rfl

/-! Using an input edge. -/

@[simp] theorem State.popIn_cfg (s : State) : (s.popIn).cfg = s.cfg := rfl
@[simp] theorem State.popIn_seq (s : State) : (s.popIn).seq = s.seq := rfl
@[simp] theorem State.popIn_opQ (s : State) : (s.popIn).opQ = s.opQ := rfl
@[simp] theorem State.popIn_argQ (s : State) : (s.popIn).argQ = s.argQ := rfl
@[simp] theorem State.popIn_ptr (s : State) : (s.popIn).ptr = s.ptr := rfl
@[simp] theorem State.popIn_dly (s : State) : (s.popIn).dly = s.dly := rfl
@[simp] theorem State.popIn_bl (s : State) : (s.popIn).bl = s.bl := rfl
@[simp] theorem State.popIn_dump (s : State) : (s.popIn).dump = s.dump := rfl
@[simp] theorem State.popIn_inited (s : State) : (s.popIn).inited = s.inited := rfl
@[simp] theorem State.popIn_fault (s : State) : (s.popIn).fault = s.fault := rfl
@[simp] theorem State.popIn_cause (s : State) : (s.popIn).cause = s.cause := rfl
@[simp] theorem State.popIn_dumpWarn (s : State) : (s.popIn).dumpWarn = s.dumpWarn := rfl
@[simp] theorem State.popIn_lastStatus (s : State) : (s.popIn).lastStatus = s.lastStatus := rfl
@[simp] theorem State.popIn_inputs (s : State) : (s.popIn).inputs = s.inputs.tail := rfl
@[simp] theorem State.popIn_trace (s : State) : (s.popIn).trace = s.trace := rfl

/-! The edge in `FIN` (R201). -/

@[simp] theorem State.finEdge_cfg (s : State) : (s.finEdge).cfg = s.cfg := rfl
@[simp] theorem State.finEdge_seq (s : State) : (s.finEdge).seq = .idle := rfl
@[simp] theorem State.finEdge_opQ (s : State) : (s.finEdge).opQ = s.opQ := rfl
@[simp] theorem State.finEdge_argQ (s : State) : (s.finEdge).argQ = s.argQ := rfl
@[simp] theorem State.finEdge_ptr (s : State) : (s.finEdge).ptr = s.ptr := rfl
@[simp] theorem State.finEdge_dly (s : State) : (s.finEdge).dly = s.dly := rfl
@[simp] theorem State.finEdge_bl (s : State) : (s.finEdge).bl = s.bl := rfl
@[simp] theorem State.finEdge_dump (s : State) : (s.finEdge).dump = s.dump := rfl
@[simp] theorem State.finEdge_inited (s : State) : (s.finEdge).inited = s.inited := rfl
@[simp] theorem State.finEdge_fault (s : State) : (s.finEdge).fault = s.fault := rfl
@[simp] theorem State.finEdge_cause (s : State) : (s.finEdge).cause = s.cause := rfl
@[simp] theorem State.finEdge_dumpWarn (s : State) : (s.finEdge).dumpWarn = s.dumpWarn := rfl
@[simp] theorem State.finEdge_lastStatus (s : State) : (s.finEdge).lastStatus = s.lastStatus := rfl
@[simp] theorem State.finEdge_inputs (s : State) : (s.finEdge).inputs = s.inputs := rfl
@[simp] theorem State.finEdge_trace (s : State) : (s.finEdge).trace = s.trace := rfl

/-! Reset (R270). -/

@[simp] theorem State.applyReset_cfg (s : State) : (s.applyReset).cfg = s.cfg := rfl
@[simp] theorem State.applyReset_seq (s : State) : (s.applyReset).seq = .idle := rfl
@[simp] theorem State.applyReset_opQ (s : State) : (s.applyReset).opQ = 0 := rfl
@[simp] theorem State.applyReset_argQ (s : State) : (s.applyReset).argQ = 0 := rfl
@[simp] theorem State.applyReset_ptr (s : State) : (s.applyReset).ptr = Ptr.zero := rfl
@[simp] theorem State.applyReset_dly (s : State) : (s.applyReset).dly = 0 := rfl
@[simp] theorem State.applyReset_bl (s : State) : (s.applyReset).bl = s.cfg.blReset := rfl
@[simp] theorem State.applyReset_dump (s : State) : (s.applyReset).dump = false := rfl
@[simp] theorem State.applyReset_inited (s : State) : (s.applyReset).inited = false := rfl
@[simp] theorem State.applyReset_fault (s : State) : (s.applyReset).fault = false := rfl
@[simp] theorem State.applyReset_cause (s : State) : (s.applyReset).cause = 0 := rfl
@[simp] theorem State.applyReset_dumpWarn (s : State) : (s.applyReset).dumpWarn = false := rfl
@[simp] theorem State.applyReset_lastStatus (s : State) : (s.applyReset).lastStatus = 0 := rfl
@[simp] theorem State.applyReset_inputs (s : State) : (s.applyReset).inputs = s.inputs := rfl
@[simp] theorem State.applyReset_trace (s : State) : (s.applyReset).trace = s.traceAfterReset := rfl

/-! The trace after reset (R272). -/

@[simp] theorem withdrawDone_nil : withdrawDone [] = [] := rfl

@[simp] theorem withdrawDone_done (t : List Event) (op : OpCode) (st : Status) : withdrawDone (t ++ [.done op st]) = t := by
  simp [withdrawDone]

@[simp] theorem State.popIn_traceAfterReset (s : State) : s.popIn.traceAfterReset = s.traceAfterReset := rfl

/-- What a reset edge can do to a trace: keep it, or take its last event, a `Done`, off it. -/
theorem withdrawDone_cases (t : List Event) :
    withdrawDone t = t ∨ ∃ op st, t = withdrawDone t ++ [.done op st] := by
  rcases List.eq_nil_or_concat t with rfl | ⟨l, e, rfl⟩
  · exact .inl rfl
  · cases e <;> simp [withdrawDone]

/-- Outside `FIN` reset keeps the trace. -/
theorem State.traceAfterReset_of_ne_fin (s : State) (h : s.seq ≠ .fin) : s.traceAfterReset = s.trace := if_neg h

/-- In `FIN` reset withdraws the `Done` event of the operation it abandons. -/
theorem State.traceAfterReset_of_fin (s : State) (h : s.seq = .fin) : s.traceAfterReset = withdrawDone s.trace := if_pos h

/-! Completion at the operation level. -/

@[simp] theorem State.opComplete_cfg (st : Status) (s : State) : (s.opComplete st).cfg = s.cfg := rfl
@[simp] theorem State.opComplete_seq (st : Status) (s : State) : (s.opComplete st).seq = s.seq := rfl
@[simp] theorem State.opComplete_opQ (st : Status) (s : State) : (s.opComplete st).opQ = s.opQ := rfl
@[simp] theorem State.opComplete_argQ (st : Status) (s : State) : (s.opComplete st).argQ = s.argQ := rfl
@[simp] theorem State.opComplete_ptr (st : Status) (s : State) : (s.opComplete st).ptr = s.ptr := rfl
@[simp] theorem State.opComplete_dly (st : Status) (s : State) : (s.opComplete st).dly = s.dly := rfl
@[simp] theorem State.opComplete_bl (st : Status) (s : State) : (s.opComplete st).bl = s.bl := rfl
@[simp] theorem State.opComplete_dump (st : Status) (s : State) : (s.opComplete st).dump = s.dump := rfl
@[simp] theorem State.opComplete_inited (st : Status) (s : State) : (s.opComplete st).inited = s.inited := rfl
@[simp] theorem State.opComplete_fault (st : Status) (s : State) : (s.opComplete st).fault = s.fault := rfl
@[simp] theorem State.opComplete_cause (st : Status) (s : State) : (s.opComplete st).cause = s.cause := rfl
@[simp] theorem State.opComplete_dumpWarn (st : Status) (s : State) : (s.opComplete st).dumpWarn = s.dumpWarn := rfl
@[simp] theorem State.opComplete_lastStatus (st : Status) (s : State) : (s.opComplete st).lastStatus = st.code := rfl
@[simp] theorem State.opComplete_inputs (st : Status) (s : State) : (s.opComplete st).inputs = s.inputs := rfl
@[simp] theorem State.opComplete_trace (st : Status) (s : State) : (s.opComplete st).trace = s.trace ++ [.done s.opQ st] := rfl

/-! The end of a whole emission list (R200). -/

@[simp] theorem State.finish_cfg (s : State) : (s.finish).cfg = s.cfg := rfl
@[simp] theorem State.finish_seq (s : State) : (s.finish).seq = .fin := rfl
@[simp] theorem State.finish_opQ (s : State) : (s.finish).opQ = s.opQ := rfl
@[simp] theorem State.finish_argQ (s : State) : (s.finish).argQ = s.argQ := rfl
@[simp] theorem State.finish_ptr (s : State) : (s.finish).ptr = Ptr.zero := rfl
@[simp] theorem State.finish_dly (s : State) : (s.finish).dly = 0 := rfl
@[simp] theorem State.finish_bl (s : State) : (s.finish).bl = s.bl := rfl
@[simp] theorem State.finish_dump (s : State) : (s.finish).dump = s.dump := rfl
@[simp] theorem State.finish_inited (s : State) : (s.finish).inited = (s.inited || decide (s.opQ = opInit)) := rfl
@[simp] theorem State.finish_fault (s : State) : (s.finish).fault = s.fault := rfl
@[simp] theorem State.finish_cause (s : State) : (s.finish).cause = s.cause := rfl
@[simp] theorem State.finish_dumpWarn (s : State) : (s.finish).dumpWarn = s.dumpWarn := rfl
@[simp] theorem State.finish_lastStatus (s : State) : (s.finish).lastStatus = Status.ok.code := rfl
@[simp] theorem State.finish_inputs (s : State) : (s.finish).inputs = s.inputs := rfl
@[simp] theorem State.finish_trace (s : State) : (s.finish).trace = s.trace ++ [.done s.opQ .ok] := rfl

/-! The start of an emission list (R194). -/

@[simp] theorem State.startEmission_cfg (s : State) : (s.startEmission).cfg = s.cfg := rfl
@[simp] theorem State.startEmission_seq (s : State) : (s.startEmission).seq = .emit := rfl
@[simp] theorem State.startEmission_opQ (s : State) : (s.startEmission).opQ = s.opQ := rfl
@[simp] theorem State.startEmission_argQ (s : State) : (s.startEmission).argQ = s.argQ := rfl
@[simp] theorem State.startEmission_ptr (s : State) : (s.startEmission).ptr = startPtr s.cfg s.opQ := rfl
@[simp] theorem State.startEmission_dly (s : State) : (s.startEmission).dly = s.dly := rfl
@[simp] theorem State.startEmission_bl (s : State) : (s.startEmission).bl = s.bl := rfl
@[simp] theorem State.startEmission_dump (s : State) : (s.startEmission).dump = s.dump := rfl
@[simp] theorem State.startEmission_inited (s : State) : (s.startEmission).inited = s.inited := rfl
@[simp] theorem State.startEmission_fault (s : State) : (s.startEmission).fault = s.fault := rfl
@[simp] theorem State.startEmission_cause (s : State) : (s.startEmission).cause = s.cause := rfl
@[simp] theorem State.startEmission_dumpWarn (s : State) : (s.startEmission).dumpWarn = s.dumpWarn := rfl
@[simp] theorem State.startEmission_lastStatus (s : State) : (s.startEmission).lastStatus = s.lastStatus := rfl
@[simp] theorem State.startEmission_inputs (s : State) : (s.startEmission).inputs = s.inputs := rfl
@[simp] theorem State.startEmission_trace (s : State) : (s.startEmission).trace = s.trace := rfl

/-! Taking a TransportError (R232, R247). -/

@[simp] theorem State.raiseTransportError_cfg (s : State) : (s.raiseTransportError).cfg = s.cfg := rfl
@[simp] theorem State.raiseTransportError_seq (s : State) : (s.raiseTransportError).seq = .fin := rfl
@[simp] theorem State.raiseTransportError_opQ (s : State) : (s.raiseTransportError).opQ = s.opQ := rfl
@[simp] theorem State.raiseTransportError_argQ (s : State) : (s.raiseTransportError).argQ = s.argQ := rfl
@[simp] theorem State.raiseTransportError_ptr (s : State) : (s.raiseTransportError).ptr = Ptr.zero := rfl
@[simp] theorem State.raiseTransportError_dly (s : State) : (s.raiseTransportError).dly = 0 := rfl
@[simp] theorem State.raiseTransportError_bl (s : State) : (s.raiseTransportError).bl = s.bl := rfl
@[simp] theorem State.raiseTransportError_dump (s : State) : (s.raiseTransportError).dump = s.dump := rfl
@[simp] theorem State.raiseTransportError_inited (s : State) : (s.raiseTransportError).inited = s.inited := rfl
@[simp] theorem State.raiseTransportError_fault (s : State) : (s.raiseTransportError).fault = true := rfl
@[simp] theorem State.raiseTransportError_cause (s : State) : (s.raiseTransportError).cause = 1 := rfl
@[simp] theorem State.raiseTransportError_dumpWarn (s : State) : (s.raiseTransportError).dumpWarn = s.dumpWarn := rfl
@[simp] theorem State.raiseTransportError_lastStatus (s : State) : (s.raiseTransportError).lastStatus = 1 := rfl
@[simp] theorem State.raiseTransportError_inputs (s : State) : (s.raiseTransportError).inputs = s.inputs := rfl
@[simp] theorem State.raiseTransportError_trace (s : State) : (s.raiseTransportError).trace = s.trace ++ [.busFail s.curByte] ++ [.done s.opQ .eTransport] := rfl

/-! The return from it (R176, R248). -/

@[simp] theorem State.returnFromFault_cfg (s : State) : (s.returnFromFault).cfg = s.cfg := rfl
@[simp] theorem State.returnFromFault_seq (s : State) : (s.returnFromFault).seq = .fin := rfl
@[simp] theorem State.returnFromFault_opQ (s : State) : (s.returnFromFault).opQ = s.opQ := rfl
@[simp] theorem State.returnFromFault_argQ (s : State) : (s.returnFromFault).argQ = s.argQ := rfl
@[simp] theorem State.returnFromFault_ptr (s : State) : (s.returnFromFault).ptr = Ptr.zero := rfl
@[simp] theorem State.returnFromFault_dly (s : State) : (s.returnFromFault).dly = 0 := rfl
@[simp] theorem State.returnFromFault_bl (s : State) : (s.returnFromFault).bl = s.bl := rfl
@[simp] theorem State.returnFromFault_dump (s : State) : (s.returnFromFault).dump = s.dump := rfl
@[simp] theorem State.returnFromFault_inited (s : State) : (s.returnFromFault).inited = s.inited := rfl
@[simp] theorem State.returnFromFault_fault (s : State) : (s.returnFromFault).fault = false := rfl
@[simp] theorem State.returnFromFault_cause (s : State) : (s.returnFromFault).cause = 0 := rfl
@[simp] theorem State.returnFromFault_dumpWarn (s : State) : (s.returnFromFault).dumpWarn = s.dumpWarn := rfl
@[simp] theorem State.returnFromFault_lastStatus (s : State) : (s.returnFromFault).lastStatus = 0 := rfl
@[simp] theorem State.returnFromFault_inputs (s : State) : (s.returnFromFault).inputs = s.inputs := rfl
@[simp] theorem State.returnFromFault_trace (s : State) : (s.returnFromFault).trace = s.trace ++ [.done s.opQ .ok] := rfl

/-! Taking a DumpSinkError (R197, R236). -/

@[simp] theorem State.raiseDumpSinkError_cfg (s : State) : (s.raiseDumpSinkError).cfg = s.cfg := rfl
@[simp] theorem State.raiseDumpSinkError_seq (s : State) : (s.raiseDumpSinkError).seq = .emit := rfl
@[simp] theorem State.raiseDumpSinkError_opQ (s : State) : (s.raiseDumpSinkError).opQ = s.opQ := rfl
@[simp] theorem State.raiseDumpSinkError_argQ (s : State) : (s.raiseDumpSinkError).argQ = s.argQ := rfl
@[simp] theorem State.raiseDumpSinkError_ptr (s : State) : (s.raiseDumpSinkError).ptr = startPtr s.cfg s.opQ := rfl
@[simp] theorem State.raiseDumpSinkError_dly (s : State) : (s.raiseDumpSinkError).dly = s.dly := rfl
@[simp] theorem State.raiseDumpSinkError_bl (s : State) : (s.raiseDumpSinkError).bl = s.bl := rfl
@[simp] theorem State.raiseDumpSinkError_dump (s : State) : (s.raiseDumpSinkError).dump = false := rfl
@[simp] theorem State.raiseDumpSinkError_inited (s : State) : (s.raiseDumpSinkError).inited = s.inited := rfl
@[simp] theorem State.raiseDumpSinkError_fault (s : State) : (s.raiseDumpSinkError).fault = s.fault := rfl
@[simp] theorem State.raiseDumpSinkError_cause (s : State) : (s.raiseDumpSinkError).cause = s.cause := rfl
@[simp] theorem State.raiseDumpSinkError_dumpWarn (s : State) : (s.raiseDumpSinkError).dumpWarn = true := rfl
@[simp] theorem State.raiseDumpSinkError_lastStatus (s : State) : (s.raiseDumpSinkError).lastStatus = s.lastStatus := rfl
@[simp] theorem State.raiseDumpSinkError_inputs (s : State) : (s.raiseDumpSinkError).inputs = s.inputs := rfl
@[simp] theorem State.raiseDumpSinkError_trace (s : State) : (s.raiseDumpSinkError).trace = s.trace ++ [.dumpFail s.curByte] := rfl

/-! A request placed on the port (log entry 5). -/

@[simp] theorem State.withFetchWord_cfg (nbits w : Nat) (s : State) :
    (s.withFetchWord nbits w).cfg = s.cfg := rfl
@[simp] theorem State.withFetchWord_seq (nbits w : Nat) (s : State) :
    (s.withFetchWord nbits w).seq = .idle := rfl
@[simp] theorem State.withFetchWord_opQ (nbits w : Nat) (s : State) :
    (s.withFetchWord nbits w).opQ = s.opQ := rfl
@[simp] theorem State.withFetchWord_argQ (nbits w : Nat) (s : State) :
    (s.withFetchWord nbits w).argQ = s.argQ := rfl
@[simp] theorem State.withFetchWord_ptr (nbits w : Nat) (s : State) :
    (s.withFetchWord nbits w).ptr = Ptr.zero := rfl
@[simp] theorem State.withFetchWord_dly (nbits w : Nat) (s : State) :
    (s.withFetchWord nbits w).dly = 0 := rfl
@[simp] theorem State.withFetchWord_bl (nbits w : Nat) (s : State) :
    (s.withFetchWord nbits w).bl = s.bl := rfl
@[simp] theorem State.withFetchWord_dump (nbits w : Nat) (s : State) :
    (s.withFetchWord nbits w).dump = s.dump := rfl
@[simp] theorem State.withFetchWord_inited (nbits w : Nat) (s : State) :
    (s.withFetchWord nbits w).inited = s.inited := rfl
@[simp] theorem State.withFetchWord_fault (nbits w : Nat) (s : State) :
    (s.withFetchWord nbits w).fault = s.fault := rfl
@[simp] theorem State.withFetchWord_cause (nbits w : Nat) (s : State) :
    (s.withFetchWord nbits w).cause = s.cause := rfl
@[simp] theorem State.withFetchWord_dumpWarn (nbits w : Nat) (s : State) :
    (s.withFetchWord nbits w).dumpWarn = s.dumpWarn := rfl
@[simp] theorem State.withFetchWord_lastStatus (nbits w : Nat) (s : State) :
    (s.withFetchWord nbits w).lastStatus = s.lastStatus := rfl
@[simp] theorem State.withFetchWord_inputs (nbits w : Nat) (s : State) :
    (s.withFetchWord nbits w).inputs = In.request (BitVec.ofNat 11 (w % 2 ^ nbits)) :: s.inputs := rfl
@[simp] theorem State.withFetchWord_trace (nbits w : Nat) (s : State) :
    (s.withFetchWord nbits w).trace = s.trace := rfl

/-! The codes and the status. -/

@[simp] theorem Status.code_ok : Status.ok.code = 0 := rfl
@[simp] theorem Status.code_eTransport : Status.eTransport.code = 1 := rfl
@[simp] theorem Status.code_eNotInit : Status.eNotInit.code = 2 := rfl
@[simp] theorem Status.code_eFaulted : Status.eFaulted.code = 3 := rfl
@[simp] theorem Status.code_eIllegal : Status.eIllegal.code = 4 := rfl

/-- Every status code a request completes with is at most 4 (R33, R230). -/
theorem Status.code_le (st : Status) : st.code.toNat ≤ 4 := by cases st <;> decide

@[simp] theorem In.quiet_rst : In.quiet.rst = false := rfl
@[simp] theorem In.quiet_busAnswer : In.quiet.busAnswer = none := rfl
@[simp] theorem In.quiet_dumpAnswer : In.quiet.dumpAnswer = none := rfl
@[simp] theorem In.bus_rst (r : Answer) : (In.bus r).rst = false := by cases r <;> rfl
@[simp] theorem In.bus_busAnswer (r : Answer) : (In.bus r).busAnswer = some r := by cases r <;> rfl
@[simp] theorem In.dump_rst (r : Answer) : (In.dump r).rst = false := by cases r <;> rfl
@[simp] theorem In.dump_dumpAnswer (r : Answer) : (In.dump r).dumpAnswer = some r := by cases r <;> rfl

end Sys2Proof.Machine
end

