-- ==== Sys2Proof/Laws/Step.lean ====
section
/-! SUPPORT. For each shared operation of the machine, and for a step, one lemma that says once everything it can do, so that
a proof cites it instead of unfolding the operation. -/

namespace Sys2Proof.Machine

/-! The invariant, by the state of the sequencer (R213). -/

theorem legal_quiet (s : State) (h : s.seq = .idle ∨ s.seq = .fin) : s.legal = true ↔
    s.ptr = Ptr.zero ∧ s.dly = 0 ∧ ((s.fault = true → s.cause = 1) ∧ (s.fault = false → s.cause = 0)) ∧
    s.lastStatus.toNat ≤ 4 := by
  rcases h with h | h <;> simp only [State.legal, h, Bool.and_eq_true, decide_eq_true_eq, and_assoc, true_and]

theorem legal_emit (s : State) (h : s.seq = .emit) : s.legal = true ↔
    s.dly = 0 ∧ emits s.opQ = true ∧ s.fault = false ∧ legalPtr s.cfg s.opQ s.ptr = true ∧
    s.inited = decide (s.opQ ≠ opInit) ∧ s.cause = 0 ∧ s.lastStatus.toNat ≤ 4 := by
  simp only [State.legal, h, Bool.and_eq_true, decide_eq_true_eq, Bool.not_eq_true', beq_iff_eq, and_assoc]
  constructor
  · rintro ⟨h1, h2, h3, h4, h5, -, h6, h7⟩; exact ⟨h1, h2, h3, h4, h5, h6 h3, h7⟩
  · rintro ⟨h1, h2, h3, h4, h5, h6, h7⟩; exact ⟨h1, h2, h3, h4, h5, fun h => by simp [h3] at h, fun _ => h6, h7⟩

theorem legal_settle (s : State) (h : s.seq = .settle) : s.legal = true ↔
    1 ≤ s.dly ∧ s.dly ≤ s.cfg.settleTicks ∧ s.dump = false ∧ emits s.opQ = true ∧ s.fault = false ∧
    legalPtr s.cfg s.opQ s.ptr = true ∧ s.inited = decide (s.opQ ≠ opInit) ∧ s.cause = 0 ∧ s.lastStatus.toNat ≤ 4 := by
  simp only [State.legal, h, Bool.and_eq_true, decide_eq_true_eq, Bool.not_eq_true', beq_iff_eq, and_assoc]
  constructor
  · rintro ⟨h1, h2, h2', h2'', h3, h4, h5, -, h6, h7⟩; exact ⟨h1, h2, h2', h2'', h3, h4, h5, h6 h3, h7⟩
  · rintro ⟨h1, h2, h2', h2'', h3, h4, h5, h6, h7⟩
    exact ⟨h1, h2, h2', h2'', h3, h4, h5, fun h => by simp [h3] at h, fun _ => h6, h7⟩

/-- The completion of an operation leaves a state of the invariant (R204, R213). -/
theorem legal_complete (st : Status) (s : State)
    (h : (s.fault = true → s.cause = 1) ∧ (s.fault = false → s.cause = 0)) : (s.complete st).legal = true := by
  rw [legal_quiet _ (.inr rfl)]
  exact ⟨rfl, rfl, h, st.code_le⟩

/-! The shared operations. -/

/-- The two outcomes of `advance()` (R200). -/
theorem advance_cases (s : State) : (nextPtr s.cfg s.opQ s.ptr = none ∧ s.advance = s.finish) ∨
    (∃ p, nextPtr s.cfg s.opQ s.ptr = some p ∧ s.advance = s.present p) := by
  unfold State.advance
  cases h : nextPtr s.cfg s.opQ s.ptr <;> simp

/-- The outcomes of a physical write (R52, R196). -/
theorem busWrite_cases (r : Option Answer) (s : State) :
    (r = none ∧ s.busWrite r = s) ∨ (r = some .fail ∧ s.busWrite r = s.raiseTransportError) ∨
    (r = some .ok ∧ s.cfg.settleTicks = 0 ∧ s.busWrite r = (s.record (.busWrite s.curByte)).advance) ∨
    (r = some .ok ∧ 0 < s.cfg.settleTicks ∧ s.busWrite r = (s.record (.busWrite s.curByte)).startSettle) := by
  match r with
  | none => simp [State.busWrite]
  | some .fail => simp [State.busWrite]
  | some .ok => by_cases h : s.cfg.settleTicks = 0 <;> simp [State.busWrite, h]; omega

/-- The outcomes of a dump write (R56, R197). -/
theorem dumpWrite_cases (r : Option Answer) (s : State) :
    (r = none ∧ s.dumpWrite r = s) ∨ (r = some .fail ∧ s.dumpWrite r = s.raiseDumpSinkError) ∨
    (r = some .ok ∧ s.dumpWrite r = (s.record (.dumpWrite s.curByte)).advance) := by
  match r with
  | none => simp [State.dumpWrite]
  | some .fail => simp [State.dumpWrite]
  | some .ok => simp [State.dumpWrite]

/-- An edge in `EMIT` uses the port `dump` selects (R125). -/
theorem emitEdge_cases (e : In) (s : State) :
    (s.dump = false ∧ s.emitEdge e = s.busWrite e.busAnswer) ∨ (s.dump = true ∧ s.emitEdge e = s.dumpWrite e.dumpAnswer) := by
  cases h : s.dump <;> simp [State.emitEdge, h]

/-- An edge in `SETTLE` (R199). -/
theorem settleEdge_cases (s : State) :
    (s.dly = 1 ∧ s.settleEdge = ({ s with dly := 0 } : State).advance) ∨
    (s.dly ≠ 1 ∧ s.settleEdge = { s with dly := s.dly - 1 }) := by
  by_cases h : s.dly = 1 <;> simp [State.settleEdge, h]

/-- The three outcomes of presenting a request (R193, R194, R242). -/
theorem accept_cases (op : OpCode) (arg : Byte) (check : State → Option Status) (effect : State → State) (s : State) :
    (s.seq ≠ .idle ∧ s.accept op arg check effect = s) ∨
    (∃ st, s.seq = .idle ∧ check s = some st ∧ s.accept op arg check effect = (s.latch op arg).complete st) ∨
    (s.seq = .idle ∧ check s = none ∧ s.accept op arg check effect = effect (s.latch op arg)) := by
  by_cases h : s.seq = .idle
  · cases hc : check s <;> simp [State.accept, h, hc]
  · simp [State.accept, h]

theorem faultedCheck_cases (s : State) :
    (s.fault = true ∧ s.faultedCheck = some .eFaulted) ∨ (s.fault = false ∧ s.faultedCheck = none) := by
  cases h : s.fault <;> simp [State.faultedCheck, h]

theorem notInitCheck_cases (s : State) :
    (s.fault = true ∧ s.notInitCheck = some .eFaulted) ∨
    (s.fault = false ∧ s.inited = false ∧ s.notInitCheck = some .eNotInit) ∨
    (s.fault = false ∧ s.inited = true ∧ s.notInitCheck = none) := by
  cases h : s.fault <;> cases h' : s.inited <;> simp [State.notInitCheck, h, h']

/-- What the sinks answer at an edge (R52, R56, R244). -/
theorem busAnswer_cases (e : In) :
    (e.busFail = true ∧ e.busAnswer = some .fail) ∨ (e.busFail = false ∧ e.busDone = true ∧ e.busAnswer = some .ok) ∨
    (e.busFail = false ∧ e.busDone = false ∧ e.busAnswer = none) := by
  cases h : e.busFail <;> cases h' : e.busDone <;> simp [In.busAnswer, h, h']

theorem dumpAnswer_cases (e : In) :
    (e.dumpFail = true ∧ e.dumpAnswer = some .fail) ∨
    (e.dumpFail = false ∧ e.dumpDone = true ∧ e.dumpAnswer = some .ok) ∨
    (e.dumpFail = false ∧ e.dumpDone = false ∧ e.dumpAnswer = none) := by
  cases h : e.dumpFail <;> cases h' : e.dumpDone <;> simp [In.dumpAnswer, h, h']

/-! One step. -/

/-- An edge of a state of the invariant, reset not asserted. -/
theorem step_of_inv (s : State) (h : s.Inv) (hr : s.nextIn.rst = false) : step s = edge s.nextIn s.popIn := by
  simp [step, h.1, h.2, hr]

/-- A reset edge. -/
theorem step_reset (s : State) (h : s.cfg.wf = true) (hr : s.nextIn.rst = true) : step s = .next s.popIn.applyReset := by
  simp [step, h, hr]

/-- The four states of the sequencer (R205). -/
theorem edge_cases (e : In) (s : State) :
    (s.seq = .idle ∧ e.reqValid = false ∧ edge e s = .next s) ∨
    (s.seq = .idle ∧ e.reqValid = true ∧ edge e s = exec (decodeReq e.reqOp e.reqArg) s) ∨
    (s.seq = .emit ∧ edge e s = .next (s.emitEdge e)) ∨ (s.seq = .settle ∧ edge e s = .next s.settleEdge) ∨
    (s.seq = .fin ∧ edge e s = .next s.finEdge) := by
  cases h : s.seq <;> cases h' : e.reqValid <;> simp [edge, h, h']

/-- Everything a step of the invariant that answers a next state can have done. -/
theorem step_cases (s t : State) (h : s.Inv) (hs : step s = .next t) :
    (s.nextIn.rst = true ∧ t = s.popIn.applyReset) ∨ (s.nextIn.rst = false ∧ edge s.nextIn s.popIn = .next t) := by
  cases hr : s.nextIn.rst
  · exact .inr ⟨rfl, (step_of_inv s h hr).symm.trans hs⟩
  · rw [step_reset s h.1 hr] at hs
    injection hs with hs
    exact .inl ⟨rfl, hs.symm⟩

/-- Everything a step of the invariant can do when it answers a next state, with its guards: the rows of the table of R205 and
reset, the acceptance of a request apart, which is `exec`. -/
theorem step_inversion (s t : State) (h : s.Inv) (hs : step s = .next t) :
    (s.nextIn.rst = true ∧ t = s.popIn.applyReset) ∨ (s.nextIn.rst = false ∧ (
      (s.seq = .idle ∧ s.nextIn.reqValid = false ∧ t = s.popIn) ∨
      (s.seq = .idle ∧ s.nextIn.reqValid = true ∧ exec (decodeReq s.nextIn.reqOp s.nextIn.reqArg) s.popIn = .next t) ∨
      (s.seq = .emit ∧ s.dump = false ∧ s.nextIn.busFail = false ∧ s.nextIn.busDone = false ∧ t = s.popIn) ∨
      (s.seq = .emit ∧ s.dump = false ∧ s.nextIn.busFail = true ∧ t = s.popIn.raiseTransportError) ∨
      (s.seq = .emit ∧ s.dump = false ∧ s.nextIn.busFail = false ∧ s.nextIn.busDone = true ∧ 0 < s.cfg.settleTicks ∧
        t = (s.popIn.record (.busWrite s.curByte)).startSettle) ∨
      (s.seq = .emit ∧ s.dump = false ∧ s.nextIn.busFail = false ∧ s.nextIn.busDone = true ∧ s.cfg.settleTicks = 0 ∧
        nextPtr s.cfg s.opQ s.ptr = none ∧ t = (s.popIn.record (.busWrite s.curByte)).finish) ∨
      (∃ p, s.seq = .emit ∧ s.dump = false ∧ s.nextIn.busFail = false ∧ s.nextIn.busDone = true ∧ s.cfg.settleTicks = 0 ∧
        nextPtr s.cfg s.opQ s.ptr = some p ∧ t = (s.popIn.record (.busWrite s.curByte)).present p) ∨
      (s.seq = .emit ∧ s.dump = true ∧ s.nextIn.dumpFail = false ∧ s.nextIn.dumpDone = false ∧ t = s.popIn) ∨
      (s.seq = .emit ∧ s.dump = true ∧ s.nextIn.dumpFail = true ∧ t = s.popIn.raiseDumpSinkError) ∨
      (s.seq = .emit ∧ s.dump = true ∧ s.nextIn.dumpFail = false ∧ s.nextIn.dumpDone = true ∧
        nextPtr s.cfg s.opQ s.ptr = none ∧ t = (s.popIn.record (.dumpWrite s.curByte)).finish) ∨
      (∃ p, s.seq = .emit ∧ s.dump = true ∧ s.nextIn.dumpFail = false ∧ s.nextIn.dumpDone = true ∧
        nextPtr s.cfg s.opQ s.ptr = some p ∧ t = (s.popIn.record (.dumpWrite s.curByte)).present p) ∨
      (s.seq = .settle ∧ s.dly ≠ 1 ∧ t = { s.popIn with dly := s.dly - 1 }) ∨
      (s.seq = .settle ∧ s.dly = 1 ∧ nextPtr s.cfg s.opQ s.ptr = none ∧ t = ({ s.popIn with dly := 0 } : State).finish) ∨
      (∃ p, s.seq = .settle ∧ s.dly = 1 ∧ nextPtr s.cfg s.opQ s.ptr = some p ∧
        t = ({ s.popIn with dly := 0 } : State).present p) ∨
      (s.seq = .fin ∧ t = s.popIn.finEdge))) := by
  have adv (u : State) : (nextPtr u.cfg u.opQ u.ptr = none ∧ u.advance = u.finish) ∨
      (∃ p, nextPtr u.cfg u.opQ u.ptr = some p ∧ u.advance = u.present p) := advance_cases u
  rcases step_cases s t h hs with h | ⟨hr, he⟩
  · exact .inl h
  refine .inr ⟨hr, ?_⟩
  rcases edge_cases s.nextIn s.popIn with ⟨hq, hv, h1⟩ | ⟨hq, hv, h1⟩ | ⟨hq, h1⟩ | ⟨hq, h1⟩ | ⟨hq, h1⟩ <;>
    rw [h1] at he <;> simp only [State.popIn_seq] at hq
  · injection he with he; subst he; simp [hq, hv]
  · simp [hq, hv, he]
  · injection he with he
    rcases emitEdge_cases s.nextIn s.popIn with ⟨hd, h2⟩ | ⟨hd, h2⟩ <;> simp only [State.popIn_dump] at hd
    · rcases busAnswer_cases s.nextIn with ⟨a1, a2⟩ | ⟨a1, a2, a3⟩ | ⟨a1, a2, a3⟩
      · rw [h2, a2] at he; subst he; simp [State.busWrite, hq, hd, a1]
      · rw [h2, a3] at he; simp only [State.busWrite] at he
        split at he
        · rename_i ht
          replace ht : s.cfg.settleTicks = 0 := ht
          obtain ⟨hn, h⟩ | ⟨p, hn, h⟩ := adv (s.popIn.record (.busWrite s.popIn.curByte))
          · replace hn : nextPtr s.cfg s.opQ s.ptr = none := hn
            rw [h] at he; subst he; simp [hq, hd, a1, a2, ht, hn]; rfl
          · replace hn : nextPtr s.cfg s.opQ s.ptr = some p := hn
            rw [h] at he; subst he; simp [hq, hd, a1, a2, ht, hn]; rfl
        · rename_i ht
          replace ht : 0 < s.cfg.settleTicks := Nat.pos_of_ne_zero ht
          subst he; simp [hq, hd, a1, a2, ht]; left; rfl
      · rw [h2, a3] at he; subst he; simp [State.busWrite, hq, hd, a1, a2]
    · rcases dumpAnswer_cases s.nextIn with ⟨a1, a2⟩ | ⟨a1, a2, a3⟩ | ⟨a1, a2, a3⟩
      · rw [h2, a2] at he; subst he; simp [State.dumpWrite, hq, hd, a1]
      · rw [h2, a3] at he; simp only [State.dumpWrite] at he
        obtain ⟨hn, h⟩ | ⟨p, hn, h⟩ := adv (s.popIn.record (.dumpWrite s.popIn.curByte))
        · replace hn : nextPtr s.cfg s.opQ s.ptr = none := hn
          rw [h] at he; subst he; simp [hq, hd, a1, a2, hn]; rfl
        · replace hn : nextPtr s.cfg s.opQ s.ptr = some p := hn
          rw [h] at he; subst he; simp [hq, hd, a1, a2, hn]; rfl
      · rw [h2, a3] at he; subst he; simp [State.dumpWrite, hq, hd, a1, a2]
  · injection he with he
    rcases settleEdge_cases s.popIn with ⟨a, b⟩ | ⟨a, b⟩ <;> rw [b] at he
    · replace a : s.dly = 1 := a
      obtain ⟨hn, h⟩ | ⟨p, hn, h⟩ := adv ({ s.popIn with dly := 0 } : State)
      · replace hn : nextPtr s.cfg s.opQ s.ptr = none := hn
        rw [h] at he; subst he; simp [hq, a, hn]
      · replace hn : nextPtr s.cfg s.opQ s.ptr = some p := hn
        rw [h] at he; subst he; simp [hq, a, hn]
    · replace a : s.dly ≠ 1 := a
      subst he; simp [hq, a]
  · injection he with he; subst he; simp [hq]

theorem nextIn_cons (s : State) (e : In) (es : List In) (h : s.inputs = e :: es) : s.nextIn = e := by
  simp [State.nextIn, h]

theorem popIn_cons (s : State) (e : In) (es : List In) (h : s.inputs = e :: es) : s.popIn = { s with inputs := es } := by
  simp [State.popIn, h]

/-- The invariant does not speak of the coming inputs. -/
theorem inv_withInputs (s : State) (l : List In) (h : s.Inv) : ({ s with inputs := l } : State).Inv := h

/-! Runs. -/

@[simp] theorem run_zero (s : State) : run 0 s = .next s := rfl

theorem run_succ (k : Nat) (s t : State) (h : step s = .next t) : run (k + 1) s = run k t := by
  simp only [run, Host.Core.run]
  rw [show Sys2Proof.core.step s = step s from rfl, h]

theorem run_succ_inv (k : Nat) (s u : State) (h : run (k + 1) s = .next u) :
    ∃ t, step s = .next t ∧ run k t = .next u := by
  simp only [run, Host.Core.run] at h
  rw [show Sys2Proof.core.step s = step s from rfl] at h
  cases hs : step s with
  | next t => rw [hs] at h; exact ⟨t, rfl, h⟩
  | fault r => cases r
  | refused r => rw [hs] at h; cases h

theorem run_add (a b : Nat) (s t : State) (h : run a s = .next t) : run (a + b) s = run b t := by
  induction a generalizing s with
  | zero => injection h with h; subst h; simp
  | succ a ih =>
    obtain ⟨s', h1, h2⟩ := run_succ_inv a s t h
    rw [show a + 1 + b = (a + b) + 1 by omega, run_succ _ _ _ h1]
    exact ih _ h2

end Sys2Proof.Machine
end

