-- ==== Sys2Proof/Laws/Exec.lean ====
section
/-! SUPPORT. The meaning of each request in one line: everything `exec` can answer for it (R193, R194). -/

namespace Sys2Proof.Machine

theorem execInit_cases (a : Byte) (s : State) :
    (s.seq ≠ .idle ∧ execInit a s = .next s) ∨
    (s.seq = .idle ∧ s.fault = true ∧ execInit a s = .next ((s.latch opInit a).complete .eFaulted)) ∨
    (s.seq = .idle ∧ s.fault = false ∧
      execInit a s = .next ({ s.latch opInit a with inited := false } : State).startEmission) := by
  by_cases h : s.seq = .idle <;> cases hf : s.fault <;> simp [execInit, State.accept, State.faultedCheck, h, hf]

theorem execCmd_cases (b : Byte) (s : State) :
    (s.seq ≠ .idle ∧ execCmd b s = .next s) ∨
    (∃ st, s.seq = .idle ∧ s.notInitCheck = some st ∧ execCmd b s = .next ((s.latch opCmd b).complete st)) ∨
    (s.seq = .idle ∧ s.fault = false ∧ s.inited = true ∧ execCmd b s = .next (s.latch opCmd b).startEmission) := by
  by_cases h : s.seq = .idle <;> cases hf : s.fault <;> cases hi : s.inited <;>
    simp [execCmd, State.accept, State.notInitCheck, h, hf, hi]

theorem execData_cases (b : Byte) (s : State) :
    (s.seq ≠ .idle ∧ execData b s = .next s) ∨
    (∃ st, s.seq = .idle ∧ s.notInitCheck = some st ∧ execData b s = .next ((s.latch opData b).complete st)) ∨
    (s.seq = .idle ∧ s.fault = false ∧ s.inited = true ∧ execData b s = .next (s.latch opData b).startEmission) := by
  by_cases h : s.seq = .idle <;> cases hf : s.fault <;> cases hi : s.inited <;>
    simp [execData, State.accept, State.notInitCheck, h, hf, hi]

theorem execBl_cases (a : Byte) (s : State) :
    (s.seq ≠ .idle ∧ execBl a s = .next s) ∨
    (∃ st, s.seq = .idle ∧ s.notInitCheck = some st ∧ execBl a s = .next ((s.latch opBl a).complete st)) ∨
    (s.seq = .idle ∧ s.fault = false ∧ s.inited = true ∧
      execBl a s = .next ({ s.latch opBl a with bl := onBit a } : State).startEmission) := by
  by_cases h : s.seq = .idle <;> cases hf : s.fault <;> cases hi : s.inited <;>
    simp [execBl, State.accept, State.notInitCheck, h, hf, hi]

theorem execDumpOn_cases (a : Byte) (s : State) :
    (s.seq ≠ .idle ∧ execDumpOn a s = .next s) ∨
    (s.seq = .idle ∧ s.fault = true ∧ execDumpOn a s = .next ((s.latch opDumpOn a).complete .eFaulted)) ∨
    (s.seq = .idle ∧ s.fault = false ∧
      execDumpOn a s = .next (({ s.latch opDumpOn a with dump := true, dumpWarn := false } : State).complete .ok)) := by
  by_cases h : s.seq = .idle <;> cases hf : s.fault <;> simp [execDumpOn, State.accept, State.faultedCheck, h, hf]

theorem execDumpOff_cases (a : Byte) (s : State) :
    (s.seq ≠ .idle ∧ execDumpOff a s = .next s) ∨
    (s.seq = .idle ∧ s.fault = true ∧ execDumpOff a s = .next ((s.latch opDumpOff a).complete .eFaulted)) ∨
    (s.seq = .idle ∧ s.fault = false ∧
      execDumpOff a s = .next (({ s.latch opDumpOff a with dump := false } : State).complete .ok)) := by
  by_cases h : s.seq = .idle <;> cases hf : s.fault <;> simp [execDumpOff, State.accept, State.faultedCheck, h, hf]

theorem execRecover_cases (a : Byte) (s : State) :
    (s.seq ≠ .idle ∧ execRecover a s = .next s) ∨
    (s.seq = .idle ∧ execRecover a s = .next (s.latch opRecover a).returnFromFault) := by
  by_cases h : s.seq = .idle <;> simp [execRecover, State.accept, h]

theorem execReserved7_cases (a : Byte) (s : State) :
    (s.seq ≠ .idle ∧ execReserved7 a s = .next s) ∨
    (s.seq = .idle ∧ execReserved7 a s = .next ((s.latch opReserved7 a).complete .eIllegal)) := by
  by_cases h : s.seq = .idle <;> simp [execReserved7, State.accept, h]

/-- Everything an accepted request can do, by the operation code on the port (R194, R243). -/
theorem exec_inversion (op : OpCode) (a : Byte) (s t : State) (hq : s.seq = .idle)
    (h : exec (decodeReq op a) s = .next t) :
    (∃ st, t = (s.latch op a).complete st ∧
      (st = .eIllegal ∧ op = 7 ∨ st = .eFaulted ∧ s.fault = true ∧ op ≠ 6 ∧ op ≠ 7 ∨
        st = .eNotInit ∧ s.fault = false ∧ s.inited = false ∧ (op = 1 ∨ op = 2 ∨ op = 3))) ∨
    (op = 0 ∧ s.fault = false ∧ t = ({ s.latch 0 a with inited := false } : State).startEmission) ∨
    ((op = 1 ∨ op = 2) ∧ s.fault = false ∧ s.inited = true ∧ t = (s.latch op a).startEmission) ∨
    (op = 3 ∧ s.fault = false ∧ s.inited = true ∧ t = ({ s.latch 3 a with bl := onBit a } : State).startEmission) ∨
    (op = 4 ∧ s.fault = false ∧ t = ({ s.latch 4 a with dump := true, dumpWarn := false } : State).complete .ok) ∨
    (op = 5 ∧ s.fault = false ∧ t = ({ s.latch 5 a with dump := false } : State).complete .ok) ∨
    (op = 6 ∧ t = (s.latch 6 a).returnFromFault) := by
  have hop := (by decide : ∀ op : BitVec 3,
    op = 0 ∨ op = 1 ∨ op = 2 ∨ op = 3 ∨ op = 4 ∨ op = 5 ∨ op = 6 ∨ op = 7) op
  rcases hop with rfl | rfl | rfl | rfl | rfl | rfl | rfl | rfl <;>
    simp [decodeReq, opInit, opCmd, opData, opBl, opDumpOn, opDumpOff, opRecover, exec, execInit, execCmd, execData, execBl,
      execDumpOn, execDumpOff, execRecover, execReserved7, State.accept, hq, State.faultedCheck, State.notInitCheck,
      opReserved7] at h ⊢ <;>
    cases hf : s.fault <;> cases hi : s.inited <;> simp_all

/-- Every request always answers a next state. -/
theorem exec_next (i : Instr) (s : State) : ∃ t, exec i s = .next t := by
  cases i <;> exact ⟨_, rfl⟩

/-- No request changes the configuration or the coming inputs. -/
theorem exec_frame (i : Instr) (s t : State) (h : exec i s = .next t) : t.cfg = s.cfg ∧ t.inputs = s.inputs := by
  have key : ∀ (op : OpCode) (arg : Byte) (check : State → Option Status) (effect : State → State),
      (∀ u, (effect u).cfg = u.cfg ∧ (effect u).inputs = u.inputs) →
      (s.accept op arg check effect).cfg = s.cfg ∧ (s.accept op arg check effect).inputs = s.inputs := by
    intro op arg check effect he
    obtain ⟨-, h⟩ | ⟨st, -, -, h⟩ | ⟨-, -, h⟩ := accept_cases op arg check effect s <;> rw [h]
    · exact ⟨rfl, rfl⟩
    · exact ⟨rfl, rfl⟩
    · exact he _
  cases i <;> injection h with h <;> subst h <;> exact key _ _ _ _ (fun _ => ⟨rfl, rfl⟩)

end Sys2Proof.Machine
end

