-- ==== Sys2Proof/Laws/Frame.lean ====
section
/-! SUPPORT. What a well-formed configuration says, in the form proofs use it (R9), and the small lemmas of a frame's fields
(R82, R120) and of the lists built from frames (R121 to R123). -/

namespace Sys2Proof.Machine

/-- A one-hot byte is a power of two. -/
theorem oneHot_shape : ∀ b : Byte, oneHot b = true → ∃ k : Fin 8, b = 1#8 <<< k.val := by decide

/-- Different one-hot bytes have no bit in common. -/
theorem oneHot_disjoint (a b : Byte) (ha : oneHot a = true) (hb : oneHot b = true) (h : a ≠ b) : a &&& b = 0 := by
  obtain ⟨i, rfl⟩ := oneHot_shape a ha
  obtain ⟨j, rfl⟩ := oneHot_shape b hb
  revert i j; decide

theorem oneHot_ne_zero (a : Byte) (h : oneHot a = true) : a ≠ 0 := by
  rintro rfl; simp [oneHot] at h

/-- The clauses of R9, the pairwise difference of the masks as disjointness. -/
structure CfgFacts (c : Cfg) : Prop where
  rs : oneHot c.rsBit = true
  rw : oneHot c.rwBit = true
  en : oneHot c.enBit = true
  bl : oneHot c.blBit = true
  rs_rw : c.rsBit &&& c.rwBit = 0
  rs_en : c.rsBit &&& c.enBit = 0
  rs_bl : c.rsBit &&& c.blBit = 0
  rw_en : c.rwBit &&& c.enBit = 0
  rw_bl : c.rwBit &&& c.blBit = 0
  en_bl : c.enBit &&& c.blBit = 0
  shift : c.nibShift = 0 ∨ c.nibShift = 4
  rs_nib : c.rsBit &&& c.nibMask = 0
  rw_nib : c.rwBit &&& c.nibMask = 0
  en_nib : c.enBit &&& c.nibMask = 0
  bl_nib : c.blBit &&& c.nibMask = 0
  ticks : c.settleTicks < 2 ^ c.dlyW

theorem cfgFacts (c : Cfg) (h : c.wf = true) : CfgFacts c := by
  simp only [Cfg.wf, Cfg.masksDiffer, Cfg.masksClearOfNibble, Bool.and_eq_true, Bool.or_eq_true, beq_iff_eq, bne_iff_ne,
    decide_eq_true_eq] at h
  obtain ⟨⟨⟨⟨⟨⟨⟨h1, h2⟩, h3⟩, h4⟩, ⟨⟨⟨⟨⟨d1, d2⟩, d3⟩, d4⟩, d5⟩, d6⟩⟩, hs⟩, ⟨⟨⟨n1, n2⟩, n3⟩, n4⟩⟩, ht⟩ := h
  exact ⟨h1, h2, h3, h4, oneHot_disjoint _ _ h1 h2 d1, oneHot_disjoint _ _ h1 h3 d2, oneHot_disjoint _ _ h1 h4 d3,
    oneHot_disjoint _ _ h2 h3 d4, oneHot_disjoint _ _ h2 h4 d5, oneHot_disjoint _ _ h3 h4 d6, hs, n1, n2, n3, n4, ht⟩

/-- The nibble field of a frame lies inside `NIB_MASK` (R61, R82). -/
theorem nibble_in_mask (c : Cfg) (hs : c.nibShift = 0 ∨ c.nibShift = 4) (n : Nibble) :
    (n.setWidth 8 <<< c.nibShift) &&& c.nibMask = n.setWidth 8 <<< c.nibShift := by
  unfold Cfg.nibMask
  rcases hs with h | h <;> rw [h] <;> revert n <;> decide

/-- A mask clear of `NIB_MASK` is clear of the nibble field. -/
theorem nibble_and_clear (c : Cfg) (hs : c.nibShift = 0 ∨ c.nibShift = 4) (n : Nibble) (m : Byte)
    (h : m &&& c.nibMask = 0) : (n.setWidth 8 <<< c.nibShift) &&& m = 0 := by
  rw [← nibble_in_mask c hs n, BitVec.and_assoc, BitVec.and_comm c.nibMask, h]; exact BitVec.and_zero

/-- A mask clear of the nibble, backlight and register-select fields is clear of every frame. -/
theorem frame_and_clear (c : Cfg) (hf : CfgFacts c) (m : Byte) (hn : m &&& c.nibMask = 0) (hb : c.blBit &&& m = 0)
    (hr : c.rsBit &&& m = 0) (n : Nibble) (rs bl : Bool) : frame c n rs bl &&& m = 0 := by
  have := nibble_and_clear c hf.shift n m hn
  unfold frame
  cases rs <;> cases bl <;> simp_all [BitVec.and_or_distrib_right]

theorem and_not_of_and_zero (a b : Byte) (h : a &&& b = 0) : a &&& ~~~b = a := by
  have : a = (a &&& ~~~b) ||| (a &&& b) := by
    rw [← BitVec.and_or_distrib_left, BitVec.or_comm, BitVec.or_not_self]; exact BitVec.and_allOnes.symm
  rw [h] at this; simpa using this.symm

theorem strobe_length (c : Cfg) (n : Nibble) (rs bl : Bool) : (strobe c n rs bl).length = 3 := rfl

theorem byteSeq_length (c : Cfg) (b : Byte) (rs bl : Bool) : (byteSeq c b rs bl).length = 6 := rfl

end Sys2Proof.Machine
end

