-- ==== Sys2Proof/Laws/PerInstr.lean ====
section
/-! SUPPORT. A family of statements about the requests as syntax, one lemma for each constructor. -/

namespace Sys2Proof.Laws

/-- The two fields of the request word of a request are its operation code and its argument byte (R80, R81). -/
def EncodeFields.Statement (i : Instr) : Prop := wordOp (encode i) = i.op ∧ wordArg (encode i) = i.arg

/-- A word put together from two fields has these fields (R80). -/
theorem wordFields (op : OpCode) (arg : Byte) : wordOp (op ++ arg) = op ∧ wordArg (op ++ arg) = arg := by
  have h (j : Nat) : BitVec.getLsbD (w := 11) (op ++ arg) j = if j < 8 then arg.getLsbD j else op.getLsbD (j - 8) :=
    BitVec.getLsbD_append
  constructor <;> apply BitVec.eq_of_getLsbD_eq <;> intro i hi <;> simp [wordOp, wordArg, h, hi]

theorem EncodeFields.init (arg : Byte) : EncodeFields.Statement (.init arg) := wordFields opInit arg
theorem EncodeFields.cmd (b : Byte) : EncodeFields.Statement (.cmd b) := wordFields opCmd b
theorem EncodeFields.data (b : Byte) : EncodeFields.Statement (.data b) := wordFields opData b
theorem EncodeFields.bl (arg : Byte) : EncodeFields.Statement (.bl arg) := wordFields opBl arg
theorem EncodeFields.dumpOn (arg : Byte) : EncodeFields.Statement (.dumpOn arg) := wordFields opDumpOn arg
theorem EncodeFields.dumpOff (arg : Byte) : EncodeFields.Statement (.dumpOff arg) := wordFields opDumpOff arg
theorem EncodeFields.recover (arg : Byte) : EncodeFields.Statement (.recover arg) := wordFields opRecover arg
theorem EncodeFields.reserved7 (arg : Byte) : EncodeFields.Statement (.reserved7 arg) := wordFields opReserved7 arg

end Sys2Proof.Laws
end

