-- ==== Sys2Proof/Laws/Pointer.lean ====
section
/-! SUPPORT. The pointer functions read the configuration through its wake form only, so a fact about them over every
configuration is a fact about two (R24, R129). -/

namespace Sys2Proof.Machine

/-- The reference configuration with a wake form. -/
def wakeCfg (f : WakeForm) : Cfg := { cfgRef with wakeForm := f }

theorem nextPtr_wakeForm (c : Cfg) (op : OpCode) (p : Ptr) : nextPtr c op p = nextPtr (wakeCfg c.wakeForm) op p := rfl

theorem startPtr_wakeForm (c : Cfg) (op : OpCode) : startPtr c op = startPtr (wakeCfg c.wakeForm) op := rfl

theorem legalPtr_wakeForm (c : Cfg) (op : OpCode) (p : Ptr) : legalPtr c op p = legalPtr (wakeCfg c.wakeForm) op p := rfl

theorem ptrIndex_wakeForm (c : Cfg) (op : OpCode) (p : Ptr) : ptrIndex c op p = ptrIndex (wakeCfg c.wakeForm) op p := rfl

/-- A property of every pointer from its 64 values. -/
theorem Ptr.forall_of_fields {P : Ptr → Prop} (h : ∀ (st : BitVec 3) (n : Bool) (ph : BitVec 2), P ⟨st, n, ph⟩) (p : Ptr) :
    P p := h p.step p.nib p.phase

end Sys2Proof.Machine
end

