-- ==== Sys2Proof/Tests/Slice0.lean ====
section
/-! SUPPORT. The model's own tests. Expected results are the spec's: each test names the rule or the vector of
spec/95_test_vectors.md it comes from. The witnesses at the end show, for every statement with hypotheses, a state and
operands that meet them all, one for each clause. -/

namespace Sys2Proof.Tests

open Sys2Proof.Machine

/-! Helpers. -/

/-- What a function of the state gives in the next state, if there is one. -/
def inNext {α : Type} (o : Host.Outcome State Fault Refusal) (f : State → α) : Option α :=
  match o with
  | .next s => some (f s)
  | .fault _ => none
  | .refused _ => none

/-- The refusal of an outcome, if it is one. -/
def refusalOf (o : Host.Outcome State Fault Refusal) : Option Refusal :=
  match o with
  | .next _ => none
  | .fault _ => none
  | .refused r => some r

/-- An idle block of the reference configuration. -/
def idle (inited fault dump : Bool) (ins : List In) : State :=
  { State.reset with
    inited := inited
    fault := fault
    cause := if fault then 1 else 0
    dump := dump
    inputs := ins }

/-- A block of the reference configuration in `EMIT`, at a pointer of an operation. -/
def emitting (op : OpCode) (arg : Byte) (p : Ptr) (dump : Bool) (ins : List In) : State :=
  { idle (op != opInit) false dump ins with seq := .emit, opQ := op, argQ := arg, ptr := p }

/-- A block of the reference configuration in `SETTLE`, with `d` cycles left. -/
def settling (op : OpCode) (arg : Byte) (p : Ptr) (d : Nat) (ins : List In) : State :=
  { emitting op arg p false ins with seq := .settle, dly := d }

/-- A block in `FIN`. -/
def finished (ins : List In) : State := { idle true false false ins with seq := .fin }

/-- The reset edge. -/
def rstIn : In := { In.quiet with rst := true }

/-- The reference configuration without a settle delay, as V46 has it. -/
def noDelay : Cfg := { cfgRef with settleTicks := 0 }

/-! Well-formedness: every check of R9 refuses a record that fails it alone. -/

theorem test_cfgRef_wf : cfgRef.wf = true := by decide
theorem test_cfgAlt_wf : cfgAlt.wf = true := by decide
theorem test_noDelay_wf : noDelay.wf = true := by decide
theorem test_wf_refuses_two_bits_rs : ({ cfgAlt with rsBit := 0x50 } : Cfg).wf = false := by decide
theorem test_wf_refuses_no_bit_rw : ({ cfgRef with rwBit := 0x00 } : Cfg).wf = false := by decide
theorem test_wf_refuses_no_bit_en : ({ cfgRef with enBit := 0x00 } : Cfg).wf = false := by decide
theorem test_wf_refuses_no_bit_bl : ({ cfgRef with blBit := 0x00 } : Cfg).wf = false := by decide
theorem test_wf_refuses_rs_eq_rw : ({ cfgRef with rwBit := 0x01 } : Cfg).wf = false := by decide
theorem test_wf_refuses_rs_eq_en : ({ cfgRef with enBit := 0x01 } : Cfg).wf = false := by decide
theorem test_wf_refuses_rs_eq_bl : ({ cfgRef with blBit := 0x01 } : Cfg).wf = false := by decide
theorem test_wf_refuses_rw_eq_en : ({ cfgRef with enBit := 0x02 } : Cfg).wf = false := by decide
theorem test_wf_refuses_rw_eq_bl : ({ cfgRef with blBit := 0x02 } : Cfg).wf = false := by decide
theorem test_wf_refuses_en_eq_bl : ({ cfgRef with blBit := 0x04 } : Cfg).wf = false := by decide
theorem test_wf_refuses_shift_one :
    ({ cfgRef with rwBit := 0x20, enBit := 0x40, blBit := 0x80, nibShift := 1 } : Cfg).wf = false := by decide
theorem test_wf_refuses_rs_in_nibble : ({ cfgRef with rsBit := 0x10 } : Cfg).wf = false := by decide
theorem test_wf_refuses_rw_in_nibble : ({ cfgRef with rwBit := 0x20 } : Cfg).wf = false := by decide
theorem test_wf_refuses_en_in_nibble : ({ cfgRef with enBit := 0x40 } : Cfg).wf = false := by decide
theorem test_wf_refuses_bl_in_nibble : ({ cfgRef with blBit := 0x80 } : Cfg).wf = false := by decide
theorem test_wf_refuses_wide_delay : ({ cfgRef with settleTicks := 8 } : Cfg).wf = false := by decide

/-- R86, R87: every argument is legal, and the canonical ones are as the rules say. -/
theorem test_request_wf : (Instr.bl 0x02).wf = true ∧ (Instr.bl 0x02).canonical = false ∧ (Instr.bl 0x01).canonical = true ∧
    (Instr.init 0xA7).wf = true ∧ (Instr.init 0xA7).canonical = false ∧ (Instr.reserved7 0x55).wf = true := by decide

/-- R100, E1: the host's geometry checks. -/
theorem test_geometry_wf : (Geometry.mk 4 4).wf = true ∧ (Geometry.mk 2 40).wf = true ∧ (Geometry.mk 3 16).wf = false ∧
    (Geometry.mk 2 7).wf = false ∧ (Geometry.mk 4 21).wf = false ∧ (Geometry.mk 2 0).wf = false ∧
    (Geometry.mk 1 41).wf = false := by decide

/-! Decoding: words written out from R80, R81 and the examples of R95. -/

theorem test_decode_init : decodeTableWord 16 0x000 = some (.init 0x00) := by decide
theorem test_decode_cmd : decodeTableWord 16 0x101 = some (.cmd 0x01) := by decide
theorem test_decode_data : decodeTableWord 16 0x248 = some (.data 0x48) := by decide
theorem test_decode_bl : decodeTableWord 16 0x301 = some (.bl 0x01) := by decide
theorem test_decode_dumpOn : decodeTableWord 16 0x400 = some (.dumpOn 0x00) := by decide
theorem test_decode_dumpOff : decodeTableWord 16 0x500 = some (.dumpOff 0x00) := by decide
theorem test_decode_recover : decodeTableWord 16 0x600 = some (.recover 0x00) := by decide
theorem test_decode_reserved7 : decodeTableWord 16 0x7FF = some (.reserved7 0xFF) := by decide
theorem test_decode_rejects_wide : decodeNat 0x800 = .error .notElevenBits ∧ decodeTableWord 16 0x8000 = none := by decide
theorem test_encode : encode (.data 0x48) = 0x248 ∧ encode (.bl 0x01) = 0x301 ∧ encode (.reserved7 0xFF) = 0x7FF := by decide

/-! Frames and lists: V1, V7, V9, V212, V216, V200, V31. -/

theorem test_strobe : strobe cfgRef 0x0 false false = [0x00, 0x04, 0x00] ∧
    strobe cfgRef 0xF true true = [0xF9, 0xFD, 0xF9] ∧ strobe cfgRef 0xA true false = [0xA1, 0xA5, 0xA1] := by decide
theorem test_byteSeq : byteSeq cfgRef 0x01 false true = [0x08, 0x0C, 0x08, 0x18, 0x1C, 0x18] ∧
    byteSeq cfgRef 0xA5 true false = [0xA1, 0xA5, 0xA1, 0x51, 0x55, 0x51] := by decide
theorem test_initList_byte_form :
    (initList { cfgRef with wakeForm := .byte } true).take 12 =
      [0x08, 0x0C, 0x08, 0x38, 0x3C, 0x38, 0x08, 0x0C, 0x08, 0x38, 0x3C, 0x38] := by decide

/-! One step of each request, placed on the port (R194; V80 to V98). -/

theorem test_init_accepted :
    inNext (step (State.reset.withFetchWord 16 0x0A7)) (fun s => (s.seq, s.ptr, s.inited, s.argQ, s.curByte)) =
      some (.emit, ⟨0, true, 0⟩, false, 0xA7, 0x38) := by decide
theorem test_init_faulted :
    inNext (step ((idle true true false []).withFetchWord 16 0x000)) (fun s => (s.inited, s.fault, s.trace)) =
      some (true, true, [.done 0 .eFaulted]) := by decide
theorem test_cmd_accepted :
    inNext (step ((idle true false false []).withFetchWord 16 0x1C0)) (fun s => (s.seq, s.opQ, s.outputs.busByte)) =
      some (.emit, 1, some 0xC8) := by decide
theorem test_cmd_not_init :
    inNext (step (State.reset.withFetchWord 16 0x101)) (fun s => (s.seq, s.lastStatus, s.trace)) =
      some (.fin, 2, [.done 1 .eNotInit]) := by decide
theorem test_data_accepted :
    inNext (step ((idle true false true []).withFetchWord 16 0x248)) (fun s => (s.outputs.busByte, s.outputs.dumpByte)) =
      some (none, some 0x49) := by decide
theorem test_data_faulted_before_not_init :
    inNext (step ((idle false true false []).withFetchWord 16 0x241)) (fun s => (s.lastStatus, s.trace)) =
      some (3, [.done 2 .eFaulted]) := by decide
theorem test_bl_sets_new_value :
    inNext (step ((idle true false false []).withFetchWord 16 0x3FE)) (fun s => (s.bl, s.argQ, s.outputs.busByte)) =
      some (false, 0xFE, some 0x00) := by decide
theorem test_bl_refused_keeps_value :
    inNext (step (State.reset.withFetchWord 16 0x300)) (fun s => (s.bl, s.lastStatus)) = some (true, 2) := by decide
theorem test_dumpOn :
    inNext (step (({ idle false false false [] with dumpWarn := true } : State).withFetchWord 16 0x400))
      (fun s => (s.dump, s.dumpWarn, s.trace)) = some (true, false, [.done 4 .ok]) := by decide
theorem test_dumpOn_faulted :
    inNext (step ((idle true true false []).withFetchWord 16 0x400)) (fun s => (s.dump, s.lastStatus)) =
      some (false, 3) := by decide
theorem test_dumpOff_keeps_warning :
    inNext (step (({ idle true false true [] with dumpWarn := true } : State).withFetchWord 16 0x500))
      (fun s => (s.dump, s.dumpWarn, s.trace)) = some (false, true, [.done 5 .ok]) := by decide
theorem test_recover :
    inNext (step ((idle true true false []).withFetchWord 16 0x600)) (fun s => (s.fault, s.cause, s.inited, s.trace)) =
      some (false, 0, true, [.done 6 .ok]) := by decide
theorem test_reserved7_first :
    inNext (step ((idle false true false []).withFetchWord 16 0x755)) (fun s => (s.opQ, s.argQ, s.lastStatus, s.fault)) =
      some (7, 0x55, 4, true) := by decide

/-! One edge of the sequencer (R196 to R201; V60, V71, V100, V105). -/

theorem test_busWrite_ok_settles :
    inNext (step (emitting opCmd 0x01 ⟨0, false, 1⟩ false [In.bus .ok])) (fun s => (s.seq, s.dly, s.trace)) =
      some (.settle, 5, [.busWrite 0x0C]) := by decide
theorem test_busWrite_fail_wins :
    inNext (step (emitting opCmd 0x01 ⟨0, false, 1⟩ false [{ In.bus .fail with busDone := true }]))
      (fun s => (s.seq, s.fault, s.cause, s.ptr, s.trace)) =
      some (.fin, true, 1, ⟨0, false, 0⟩, [.busFail 0x0C, .done 1 .eTransport]) := by decide
theorem test_dumpWrite_fail_restarts :
    inNext (step (emitting opCmd 0xC0 ⟨0, true, 1⟩ true [In.dump .fail]))
      (fun s => (s.dump, s.dumpWarn, s.ptr, s.trace, s.outputs.busByte)) =
      some (false, true, ⟨0, false, 0⟩, [.dumpFail 0x0C], some 0xC8) := by decide
theorem test_settle_end_of_nibble :
    inNext (step (settling opCmd 0x01 ⟨0, false, 2⟩ 1 [])) (fun s => (s.seq, s.ptr, s.dly, s.outputs.busByte)) =
      some (.emit, ⟨0, true, 0⟩, 0, some 0x18) := by decide
theorem test_settle_end_of_init :
    inNext (step (settling opInit 0x00 ⟨7, true, 2⟩ 1 [])) (fun s => (s.seq, s.inited, s.lastStatus, s.trace)) =
      some (.fin, true, 0, [.done 0 .ok]) := by decide
theorem test_reset_mid_operation :
    inNext (step (settling opCmd 0x01 ⟨0, false, 2⟩ 2 [rstIn])) (fun s => (s.seq, s.opQ, s.inited, s.bl, s.trace)) =
      some (.idle, 0, false, true, []) := by decide
/-- R272: reset in the `FIN` cycle leaves no `Done` of the abandoned operation, and the events before it stay. -/
theorem test_reset_in_fin :
    inNext (step { finished [rstIn] with trace := [.done 4 .ok, .busWrite 0x08, .done 3 .ok], lastStatus := 0 })
      (fun s => (s.seq, s.lastStatus, s.trace)) = some (.idle, 0, [.done 4 .ok, .busWrite 0x08]) := by decide

/-- R272: a write withdrawn by reset has no event. -/
theorem test_reset_in_emit :
    inNext (step (emitting opCmd 0x01 ⟨0, false, 1⟩ false [{ rstIn with busDone := true }])) (fun s => (s.seq, s.trace)) =
      some (.idle, []) := by decide
theorem test_stat_after_reset : State.reset.stat = 0x20 := by decide

/-! Host-side helpers (E2, E8, R105). -/

theorem test_addressOf : addressOf ⟨4, 20⟩ 4 20 = .ok 0xE7 ∧ addressOf ⟨2, 16⟩ 1 17 = .error .bounds ∧
    addressOf ⟨2, 16⟩ 3 1 = .error .bounds ∧ addressOf ⟨3, 16⟩ 1 1 = .error .configuration := by decide
theorem test_placeRow : pseudoPlaceRow ⟨1, 16⟩ [0x48, 0x69] 1 = .ok [.cmd 0x80, .data 0x48, .data 0x69] ∧
    pseudoPlaceRow ⟨2, 16⟩ [] 2 = .ok [.cmd 0xC0] := by decide
theorem test_pseudo_clear : pseudoClear.map encode = [0x101, 0x102] ∧ pseudoCls.map encode = [0x101] ∧
    pseudoHome.map encode = [0x102] ∧ (pseudoSetDdram 0x14).map encode = [0x194] := by decide
theorem test_placeChar : pseudoPlaceChar ⟨2, 16⟩ 0x48 2 16 = .ok [.cmd 0xCF, .data 0x48] := by decide

/-! The operation level (V57). -/

theorem test_perform_bl_transport_error :
    perform (.bl 0x00) [.fail] (idle true false false []) =
      .completed { idle true true false [] with
        opQ := 3, bl := false, lastStatus := 1, trace := [.busFail 0x00, .done 3 .eTransport] } [] := by decide

/-! Witnesses. A statement about all states of the invariant, or about one edge, is met by these. -/

/-- One edge at which the host presents a request word. -/
def req (w : Word) : In := In.request w

theorem witness_ResetEdgeGivesResetState :
    let s (l : List In) := emitting opCmd 0x01 ⟨0, false, 1⟩ false (rstIn :: l)
    (s [rstIn]).cfg.wf = true ∧ (s [rstIn]).nextIn.rst = true ∧ (s [rstIn]).popIn.nextIn.rst = true ∧
    (s []).nextIn.rst = true ∧ (s []).popIn.nextIn.rst = false ∧ (s []).popIn.nextIn.reqValid = false ∧
    (s [req 0x101]).popIn.nextIn.reqValid = true := by decide

theorem witness_StepKeepsInv : (finished []).Inv ∧ ∃ t, step (finished []) = .next t := ⟨by decide, _, rfl⟩

theorem witness_MachineNeverStops : State.reset.Inv ∧ (emitting opInit 0 ⟨7, true, 2⟩ true []).Inv ∧
    (settling opBl 0 ⟨0, false, 0⟩ 5 []).Inv ∧ (finished []).Inv := by decide

theorem witness_OutsideInvNothingRuns :
    ({ State.reset with cfg := { cfgRef with rwBit := 0x01 } } : State).cfg.wf = false ∧
    (emitting opCmd 0 ⟨0, false, 3⟩ false []).cfg.wf = true ∧
    (emitting opCmd 0 ⟨0, false, 3⟩ false []).nextIn.rst = false ∧
    (emitting opCmd 0 ⟨0, false, 3⟩ false []).legal = false := by decide

theorem test_refusals_outside_inv :
    refusalOf (step { State.reset with cfg := { cfgRef with rwBit := 0x01 } }) = some .illFormedCfg ∧
    refusalOf (step (emitting opCmd 0 ⟨0, false, 3⟩ false [])) = some .unreachableState := by decide

theorem witness_RequestIsRunWhenIdle :
    State.reset.Inv ∧ State.reset.nextIn.rst = false ∧ State.reset.seq = .idle ∧ State.reset.nextIn.reqValid = false ∧
    (idle true false false [req 0x101]).Inv ∧ (idle true false false [req 0x101]).nextIn.rst = false ∧
    (idle true false false [req 0x101]).nextIn.presents (.cmd 0x01) ∧
    (finished [req 0x101]).Inv ∧ (finished [req 0x101]).nextIn.rst = false ∧ (finished [req 0x101]).seq ≠ .idle := by
  decide

theorem witness_FetchedWordIsRun :
    State.reset.Inv ∧ State.reset.seq = .idle ∧ decodeTableWord 16 0x7FF = some (.reserved7 0xFF) := by decide

theorem witness_AcceptanceInOrderOfDecision :
    (idle false false false []).seq = .idle ∧ (idle false true false []).fault = true ∧
    (idle false false false []).fault = false ∧ (idle false false false []).inited = false ∧
    (idle true false false []).fault = false ∧ (idle true false false []).inited = true := by decide

theorem witness_BusyBlockIgnoresRequests : (emitting opCmd 0 ⟨0, false, 0⟩ false []).seq ≠ .idle := by decide

theorem witness_RefusalChangesNothingElse :
    (idle true true false []).Inv ∧ (idle true true false []).seq = .idle ∧ (idle true true false []).nextIn.rst = false ∧
    (Instr.reserved7 0x55).op = opReserved7 ∧
    ((idle true true false []).fault = true ∧ (Instr.dumpOff 0).op ≠ opRecover ∧ (Instr.dumpOff 0).op ≠ opReserved7) ∧
    (State.reset.Inv ∧ State.reset.fault = false ∧ State.reset.inited = false ∧ (Instr.bl 0).op = opBl) := by decide

theorem witness_SystemRequestsComplete :
    State.reset.Inv ∧ State.reset.seq = .idle ∧ State.reset.nextIn.rst = false ∧ State.reset.fault = false ∧
    (idle true true false []).Inv ∧ (idle true true false []).seq = .idle ∧
    (idle true true false []).nextIn.rst = false ∧ (idle true true false []).fault = true := by decide

/-- The block of the statements about an edge in `EMIT`, with the answers of an edge. -/
def atWrite (dump : Bool) (e : In) : State := emitting opData 0x48 ⟨0, true, 2⟩ dump [e]

theorem witness_PhysicalWriteEdge :
    (atWrite false In.quiet).Inv ∧ (atWrite false In.quiet).seq = .emit ∧ (atWrite false In.quiet).dump = false ∧
    (atWrite false In.quiet).nextIn.rst = false ∧ (atWrite false In.quiet).nextIn.busDone = false ∧
    (atWrite false (In.bus .fail)).nextIn.busFail = true ∧
    (atWrite false (In.bus .ok)).nextIn.busFail = false ∧ (atWrite false (In.bus .ok)).nextIn.busDone = true ∧
    0 < (atWrite false (In.bus .ok)).cfg.settleTicks ∧
    ({ atWrite false (In.bus .ok) with cfg := noDelay } : State).Inv ∧ noDelay.settleTicks = 0 := by decide

theorem witness_DumpWriteEdge :
    (atWrite true In.quiet).Inv ∧ (atWrite true In.quiet).seq = .emit ∧ (atWrite true In.quiet).dump = true ∧
    (atWrite true In.quiet).nextIn.rst = false ∧ (atWrite true In.quiet).nextIn.dumpDone = false ∧
    (atWrite true (In.dump .fail)).nextIn.dumpFail = true ∧
    (atWrite true (In.dump .ok)).nextIn.dumpFail = false ∧ (atWrite true (In.dump .ok)).nextIn.dumpDone = true := by decide

theorem witness_AdvanceOrComplete :
    nextPtr cfgRef opInit ⟨3, true, 2⟩ = some ⟨4, false, 0⟩ ∧ nextPtr cfgRef opInit ⟨7, true, 2⟩ = none ∧
    nextPtr cfgRef opBl ⟨0, false, 0⟩ = none := by decide

theorem witness_SettleLastsItsTicks :
    (settling opBl 0 ⟨0, false, 0⟩ 5 []).Inv ∧ (settling opBl 0 ⟨0, false, 0⟩ 5 []).seq = .settle ∧
    (settling opBl 0 ⟨0, false, 0⟩ 5 []).noReset 5 ∧ 4 < (settling opBl 0 ⟨0, false, 0⟩ 5 []).dly ∧
    (settling opBl 0 ⟨0, false, 0⟩ 1 []).Inv := by decide

theorem witness_FinLastsOneCycle :
    (finished [req 0x101]).Inv ∧ (finished [req 0x101]).seq = .fin ∧ (finished [req 0x101]).nextIn.rst = false := by decide

theorem witness_TransportErrorEntry :
    (atWrite false (In.bus .fail)).Inv ∧ (atWrite false (In.bus .fail)).seq = .emit ∧
    (atWrite false (In.bus .fail)).dump = false ∧ (atWrite false (In.bus .fail)).noReset 2 ∧
    (atWrite false (In.bus .fail)).nextIn.busFail = true := by decide

theorem witness_CompletionRecordsStatus :
    (∃ t, step (emitting opInit 0 ⟨7, true, 2⟩ true [In.dump .ok]) = .next t ∧ t.seq = .fin) ∧
    (∃ t, step (finished []) = .next t ∧ t.seq ≠ .fin) ∧ (∃ t, step (finished [rstIn]) = .next t) ∧
    (emitting opInit 0 ⟨7, true, 2⟩ true [In.dump .ok]).Inv ∧ (finished [rstIn]).nextIn.rst = true :=
  ⟨⟨_, rfl, rfl⟩, ⟨_, rfl, by decide⟩, ⟨_, rfl⟩, by decide, by decide⟩

/-- The start of a whole operation of a request, with the edges given. -/
def operation (i : Instr) (dump : Bool) (ins : List In) : State :=
  { idle true false dump ins with inited := decide (i.op ≠ opInit) }

theorem witness_PhysicalOperationCompletes : ∀ i ∈ [Instr.init 0xA7, .cmd 0x01, .data 0xFF, .bl 0xFE], ∃ waits : List Nat,
    let s := operation i false (physicalEdges cfgRef.settleTicks waits ++ [In.quiet])
    s.Inv ∧ s.seq = .idle ∧ s.emitsOn i ∧ s.dump = false ∧ waits.length = (s.listOf i).length ∧
    s.inputs = physicalEdges s.cfg.settleTicks waits ++ In.quiet :: [] := by
  intro i hi
  fin_cases hi
  · exact ⟨List.replicate 36 0, by decide, by decide, by decide, by decide, by decide, rfl⟩
  · exact ⟨[0, 1, 2, 3, 4, 5], by decide, by decide, by decide, by decide, by decide, rfl⟩
  · exact ⟨List.replicate 6 0, by decide, by decide, by decide, by decide, by decide, rfl⟩
  · exact ⟨[3], by decide, by decide, by decide, by decide, by decide, rfl⟩

theorem witness_DumpOperationCompletes : ∀ i ∈ [Instr.init 0xA7, .cmd 0x01, .data 0xFF, .bl 0xFE], ∃ waits : List Nat,
    let s := operation i true (dumpEdges waits ++ [In.quiet])
    s.Inv ∧ s.seq = .idle ∧ s.emitsOn i ∧ s.dump = true ∧ waits.length = (s.listOf i).length ∧
    s.inputs = dumpEdges waits ++ In.quiet :: [] := by
  intro i hi
  fin_cases hi
  · exact ⟨List.replicate 36 0, by decide, by decide, by decide, by decide, by decide, rfl⟩
  · exact ⟨[0, 1, 2, 3, 4, 5], by decide, by decide, by decide, by decide, by decide, rfl⟩
  · exact ⟨List.replicate 6 0, by decide, by decide, by decide, by decide, by decide, rfl⟩
  · exact ⟨[3], by decide, by decide, by decide, by decide, by decide, rfl⟩

/-- V60 (the first write fails), V63 (the last one of INIT), V64, V57. -/
theorem witness_TransportErrorAborts :
    ∀ p ∈ [(Instr.init 0x00, 0), (.init 0x00, 35), (.cmd 0x01, 4), (.data 0x41, 2), (.bl 0x00, 0)], ∃ v,
      let waits := List.replicate p.2 0
      let s := operation p.1 false
        (physicalEdges cfgRef.settleTicks waits ++ List.replicate 1 In.quiet ++ [In.bus .fail, In.quiet])
      s.Inv ∧ s.seq = .idle ∧ s.emitsOn p.1 ∧ s.dump = false ∧ (s.listOf p.1)[waits.length]? = some v ∧
      s.inputs = physicalEdges s.cfg.settleTicks waits ++ List.replicate 1 In.quiet ++ In.bus .fail :: In.quiet :: [] := by
  intro p hp
  fin_cases hp
  · exact ⟨0x38, by decide, by decide, by decide, by decide, by decide, rfl⟩
  · exact ⟨0x68, by decide, by decide, by decide, by decide, by decide, rfl⟩
  · exact ⟨0x1C, by decide, by decide, by decide, by decide, by decide, rfl⟩
  · exact ⟨0x49, by decide, by decide, by decide, by decide, by decide, rfl⟩
  · exact ⟨0x00, by decide, by decide, by decide, by decide, by decide, rfl⟩

/-- V70, V71, V72. -/
theorem witness_DumpSinkErrorRestarts :
    ∀ p ∈ [(Instr.cmd 0xC0, 4, 6), (.bl 0x00, 0, 1), (.init 0x00, 10, 36)], ∃ v,
      let waits := List.replicate p.2.1 0
      let waits' := List.replicate p.2.2 0
      let s := operation p.1 true (dumpEdges waits ++ List.replicate 1 In.quiet ++
        In.dump .fail :: (physicalEdges cfgRef.settleTicks waits' ++ [In.quiet]))
      s.Inv ∧ s.seq = .idle ∧ s.emitsOn p.1 ∧ s.dump = true ∧ (s.listOf p.1)[waits.length]? = some v ∧
      waits'.length = (s.listOf p.1).length ∧
      s.inputs = dumpEdges waits ++ List.replicate 1 In.quiet ++ In.dump .fail ::
        (physicalEdges s.cfg.settleTicks waits' ++ In.quiet :: []) := by
  intro p hp
  fin_cases hp
  · exact ⟨0x0C, by decide, by decide, by decide, by decide, by decide, by decide, rfl⟩
  · exact ⟨0x00, by decide, by decide, by decide, by decide, by decide, by decide, rfl⟩
  · exact ⟨0x2C, by decide, by decide, by decide, by decide, by decide, by decide, rfl⟩

/-- After one edge DUMP_ON has completed, after two it is idle again, and BL awaits an answer. -/
theorem witness_ClockedMachineAgreesWithOperations :
    let s := idle true false false [req 0x400]
    let s' := idle true false false [req 0x301]
    (s.Inv ∧ s.seq = .idle ∧ s.nextIn.presents (.dumpOn 0) ∧ s.noReset 1 ∧ s.noReset 2) ∧
    (∃ u, run 1 s = .next u ∧ u.seq = .fin) ∧ (∃ u, run 2 s = .next u ∧ u.seq = .idle) ∧
    (s'.Inv ∧ s'.seq = .idle ∧ s'.nextIn.presents (.bl 1) ∧ s'.noReset 1) ∧ (∃ u, run 1 s' = .next u ∧ u.seq = .emit) :=
  ⟨by decide, ⟨_, rfl, rfl⟩, ⟨_, rfl, rfl⟩, by decide, ⟨_, rfl, rfl⟩⟩

/-- The premise of the same statement about the states in between, for two edges. -/
theorem witness_ClockedMachineAgrees_between :
    ∀ m v, 0 < m → m < 2 → run m (idle true false false [req 0x400]) = .next v → v.seq ≠ .idle := by
  intro m v h1 h2 h
  obtain rfl : m = 1 := by omega
  injection h with h
  subst h
  decide

theorem witness_AnsweredRequestsComplete :
    let e : In := { req 0x301 with busDone := true, dumpFail := true }
    let s := idle true false true (List.replicate 9 e)
    9 = (s.listOf (.bl 1)).length + (s.listOf (.bl 1)).length * (1 + s.cfg.settleTicks) + 2 ∧
    s.Inv ∧ s.seq = .idle ∧ s.nextIn.presents (.bl 1) ∧ s.noReset 9 ∧ 9 ≤ s.inputs.length ∧
    ∀ e ∈ s.inputs.take 9, e.busAnswer ≠ none ∧ e.dumpAnswer ≠ none := by decide

theorem witness_UnansweredWriteWaits :
    let s := emitting opCmd 0x01 ⟨0, false, 0⟩ false [req 0x241, In.quiet]
    s.Inv ∧ s.seq = .emit ∧ ∀ e ∈ s.inputs.take 3, e.silent := by decide

theorem witness_UnselectedInputsHaveNoEffect :
    let e : In := { In.quiet with dumpDone := true }
    e.rst = In.quiet.rst ∧ e ≠ In.quiet ∧
    (State.reset.seq = .idle ∧ e.reqValid = In.quiet.reqValid ∧ e.reqValid = false) ∧
    ((atWrite false e).seq = .emit ∧ (atWrite false e).dump = false ∧ e.busDone = In.quiet.busDone ∧
      e.busFail = In.quiet.busFail) ∧
    ((atWrite true e).seq = .emit ∧ (atWrite true e).dump = true ∧ (In.bus .ok).dumpDone = In.quiet.dumpDone ∧
      (In.bus .ok).dumpFail = In.quiet.dumpFail) ∧
    (settling opBl 0 ⟨0, false, 0⟩ 5 []).seq = .settle ∧ (finished []).seq = .fin := by decide

/-- For LatchWriters, BacklightWriters, DumpModeWriters, InitedWriters, FaultWriters, DumpWarnWriters and
TraceGrowsByTheSelectedWrite: an edge for each writer of each state element and an edge that is none; that each edge has a
next state is the theorem after this one. -/
theorem witness_Writers :
    let cmd := idle true false false [req 0x101]
    let setBl := idle true false false [req 0x300]
    let on := idle true false false [req 0x400]
    let off := idle true false true [req 0x500]
    let init := idle true false false [req 0x000]
    let recover := idle true true false [req 0x600]
    let sinkError := atWrite true (In.dump .fail)
    let busError := atWrite false (In.bus .fail)
    let initEnd := emitting opInit 0 ⟨7, true, 2⟩ true [In.dump .ok]
    (cmd.Inv ∧ cmd.nextIn.presents (.cmd 1)) ∧ (setBl.Inv ∧ setBl.nextIn.presents (.bl 0)) ∧
    (on.Inv ∧ on.nextIn.presents (.dumpOn 0)) ∧ (off.Inv ∧ off.nextIn.presents (.dumpOff 0)) ∧
    (init.Inv ∧ init.nextIn.presents (.init 0)) ∧ (recover.Inv ∧ recover.nextIn.presents (.recover 0)) ∧
    (sinkError.Inv ∧ sinkError.nextIn.dumpFail = true) ∧ (busError.Inv ∧ busError.nextIn.busFail = true) ∧
    initEnd.Inv ∧ ((finished [rstIn]).Inv ∧ (finished [rstIn]).nextIn.rst = true) ∧ (finished []).Inv := by decide

theorem witness_Writers_step :
    (∃ t, step (idle true false false [req 0x101]) = .next t) ∧ (∃ t, step (idle true false false [req 0x300]) = .next t) ∧
    (∃ t, step (idle true false false [req 0x400]) = .next t) ∧ (∃ t, step (idle true false true [req 0x500]) = .next t) ∧
    (∃ t, step (idle true false false [req 0x000]) = .next t) ∧ (∃ t, step (idle true true false [req 0x600]) = .next t) ∧
    (∃ t, step (atWrite true (In.dump .fail)) = .next t) ∧ (∃ t, step (atWrite false (In.bus .fail)) = .next t) ∧
    (∃ t, step (emitting opInit 0 ⟨7, true, 2⟩ true [In.dump .ok]) = .next t ∧ t.seq = .fin ∧ t.lastStatus = 0) ∧
    (∃ t, step (finished [rstIn]) = .next t) ∧ (∃ t, step (finished []) = .next t) :=
  ⟨⟨_, rfl⟩, ⟨_, rfl⟩, ⟨_, rfl⟩, ⟨_, rfl⟩, ⟨_, rfl⟩, ⟨_, rfl⟩, ⟨_, rfl⟩, ⟨_, rfl⟩, ⟨_, rfl, rfl, rfl⟩, ⟨_, rfl⟩, ⟨_, rfl⟩⟩

theorem witness_CurrentByteIsListElement :
    cfgAlt.wf = true ∧ legalPtr cfgAlt opInit ⟨7, true, 2⟩ = true ∧ legalPtr cfgRef opBl ⟨0, false, 0⟩ = true ∧
    legalPtr cfgRef opInit ⟨3, false, 0⟩ = false := by decide

theorem witness_PointerWalkFollowsList :
    emits opInit = true ∧ emits opBl = true ∧ emits opDumpOn = false ∧ legalPtr cfgRef opInit ⟨0, true, 0⟩ = true ∧
    nextPtr cfgRef opInit ⟨0, true, 2⟩ = some ⟨1, true, 0⟩ := by decide

theorem witness_EnableOnMiddleWritesOnly :
    cfgRef.wf = true ∧ (emitList cfgRef opInit 0 true)[35]? = some 0x68 ∧ (emitList cfgRef opData 0xFF true)[1]? = some 0xFD ∧
    (emitList cfgRef opBl 0 true)[0]? = some 0x08 := by decide

theorem witness_ReadWriteBitNeverSet :
    (atWrite false In.quiet).Inv ∧ (atWrite false In.quiet).outputs.busByte = some 0x89 ∧
    (atWrite true In.quiet).Inv ∧ (atWrite true In.quiet).outputs.dumpByte = some 0x89 := by decide

theorem witness_TraceHoldsOnlyFrames :
    (atWrite false (In.bus .fail)).Inv ∧ (∀ e ∈ (atWrite false (In.bus .fail)).trace, e.emittable cfgRef) ∧
    ∃ t, step (atWrite false (In.bus .fail)) = .next t := ⟨by decide, by simp [atWrite, emitting, idle, State.reset, State.resetWith], _, rfl⟩

theorem witness_FrameFieldsReadBack : cfgRef.wf = true ∧ cfgAlt.wf = true := by decide

theorem witness_DumpLogEqualsBusBytes :
    (operation (.cmd 0x01) false []).emitsOn (.cmd 0x01) ∧ ((operation (.cmd 0x01) false []).listOf (.cmd 0x01)).length ≤ 6 := by
  decide

theorem witness_RequestWordsAreTheRequests : (Instr.bl 0xFF).wf = true ∧ 2047 < 2048 ∧ 2048 < 65536 := by decide

theorem witness_RowAddressesAreInRange :
    (Geometry.mk 4 20).wf = true ∧ (Geometry.mk 2 40).wf = true ∧ (1 ≤ 4 ∧ 4 ≤ 4 ∧ 1 ≤ 20 ∧ 20 ≤ 20) ∧
    ¬ (1 ≤ 0 ∧ 0 ≤ 4 ∧ 1 ≤ 1 ∧ 1 ≤ 20) ∧ ¬ (1 ≤ 1 ∧ 1 ≤ 4 ∧ 1 ≤ 21 ∧ 21 ≤ 20) := by decide

theorem witness_PlaceRowExpansion : (Geometry.mk 1 16).wf = true ∧ 1 ≤ 1 ∧ 1 ≤ (Geometry.mk 1 16).rows := by decide

/-- From reset CMD ends with `E_NOT_INIT` (V90), so the second request of CLEAR is not presented; DUMP_ON ends with `OK`. -/
theorem witness_ExpansionStopsAtFirstError :
    (∃ t, performUntilError [.cmd 0x01] [] State.reset = .completed t [] ∧ t.lastStatus ≠ 0) ∧
    (∃ t, performUntilError [.dumpOn 0x00] [] State.reset = .completed t [] ∧ t.lastStatus = 0) :=
  ⟨⟨_, rfl, by decide⟩, ⟨_, rfl, rfl⟩⟩

/-- Reset in `EMIT`, in `SETTLE`, and in the `FIN` cycle of a BL logged on the dump port and of a refused BL. -/
theorem witness_ResetAbandonsOperation :
    let bl := emitting opBl 0x01 ⟨0, false, 0⟩ true [In.dump .ok, rstIn]
    let refused := idle false false false [req 0x301, rstIn]
    ((atWrite false rstIn).cfg.wf = true ∧ (atWrite false rstIn).nextIn.rst = true ∧ (atWrite false rstIn).seq = .emit) ∧
    ((settling opBl 0 ⟨0, false, 0⟩ 5 [rstIn]).cfg.wf = true ∧
      (settling opBl 0 ⟨0, false, 0⟩ 5 [rstIn]).nextIn.rst = true ∧
      (settling opBl 0 ⟨0, false, 0⟩ 5 [rstIn]).seq = .settle) ∧
    (bl.Inv ∧ bl.nextIn.rst = false) ∧ (∃ u, step bl = .next u ∧ u.seq = .fin ∧ u.nextIn.rst = true) ∧
    (refused.Inv ∧ refused.nextIn.rst = false) ∧
    (∃ u, step refused = .next u ∧ u.seq = .fin ∧ u.nextIn.rst = true) :=
  ⟨by decide, by decide, by decide, ⟨_, rfl, rfl, rfl⟩, by decide, ⟨_, rfl, rfl, rfl⟩⟩

end Sys2Proof.Tests
end

section
/-! The scope of the model: the reset state meets the invariant, and nothing runs outside it (R9, R25, R45, R213). -/

namespace Sys2Proof.Machine

/-- R213 holds of the values of R45, whatever the configuration: the block is quiet, with no fault and no cause, and the
last status is `OK`. -/
theorem resetWith_legal (c : Cfg) : (State.resetWith c).legal = true := by
  rw [legal_quiet _ (.inl rfl)]
  have no_fault_cause : (false = true → (0 : BitVec 3) = 1) ∧ (false = false → (0 : BitVec 3) = 0) := by decide
  exact ⟨rfl, rfl, no_fault_cause, Nat.zero_le 4⟩

theorem resetWith_inv (c : Cfg) (h : c.wf = true) : (State.resetWith c).Inv := ⟨h, resetWith_legal c⟩

theorem cfgRef_wf : cfgRef.wf = true := by decide

/-- R9, U18: the configuration is checked first, before reset and before the state. -/
theorem step_illFormedCfg (s : State) (h : s.cfg.wf = false) : step s = .refused .illFormedCfg := by
  simp [step, h]

/-- R25, U19: past the check of the configuration and without reset, the state is checked before the edge is taken. -/
theorem step_unreachableState (s : State) (hc : s.cfg.wf = true) (hr : s.nextIn.rst = false) (hl : s.legal = false) :
    step s = .refused .unreachableState := by
  simp [step, hc, hr, hl]

/-- Settles O3: the reset values are legal under every configuration, and `cfgRef` is well formed. -/
theorem resetStateMeetsInv : Obligations.ResetStateMeetsInv :=
  ⟨resetWith_inv, rfl, resetWith_inv cfgRef cfgRef_wf⟩

/-- Settles O6: one clause for each of the two refusals of `step`. -/
theorem outsideInvNothingRuns : Obligations.OutsideInvNothingRuns := fun s =>
  ⟨step_illFormedCfg s, step_unreachableState s⟩

end Sys2Proof.Machine
end

section
/-! Acceptance, register by register: what a request accepted in `IDLE` writes and what it leaves (R21, R27 to R33, R194). -/

namespace Sys2Proof.Machine

/-- The registers of `t`, the state in which the acceptance of operation `op` with argument `a` in `s` leaves the block. -/
structure AcceptedRegisters (op : OpCode) (a : Byte) (s t : State) : Prop where
  opQ : t.opQ = op
  argQ : t.argQ = a
  bl : t.bl = if op = opBl ∧ s.fault = false ∧ s.inited = true then onBit a else s.bl
  dump : t.dump =
    if s.fault = true then s.dump else if op = opDumpOn then true else if op = opDumpOff then false else s.dump
  inited : t.inited = if op = opInit ∧ s.fault = false then false else s.inited
  fault : t.fault = if op = opRecover then false else s.fault
  cause : t.cause = if op = opRecover then 0 else s.cause
  dumpWarn : t.dumpWarn = if op = opDumpOn ∧ s.fault = false then false else s.dumpWarn

/-- The operation codes as numerals (R81), the form `exec_inversion` speaks in. -/
theorem opCodes : opInit = 0 ∧ opCmd = 1 ∧ opData = 2 ∧ opBl = 3 ∧ opDumpOn = 4 ∧ opDumpOff = 5 ∧ opRecover = 6 ∧
    opReserved7 = 7 := by decide

/-- A refusal writes the latches alone, as the guards that led to it say; every other request writes its own register. -/
theorem exec_registers (op : OpCode) (a : Byte) (s t : State) (hq : s.seq = .idle)
    (h : exec (decodeReq op a) s = .next t) : AcceptedRegisters op a s t := by
  rcases exec_inversion op a s t hq h with
    ⟨st, rfl, ⟨-, rfl⟩ | ⟨-, hf, h6, h7⟩ | ⟨-, hf, hi, rfl | rfl | rfl⟩⟩ | ⟨rfl, hf, rfl⟩ | ⟨rfl | rfl, hf, hi, rfl⟩ |
    ⟨rfl, hf, hi, rfl⟩ | ⟨rfl, hf, rfl⟩ | ⟨rfl, hf, rfl⟩ | ⟨rfl, rfl⟩
  case inl.inr.inl => replace h6 : op ≠ opRecover := h6; constructor <;> simp [hf, h6]
  all_goals constructor <;> simp [opCodes, *]

/-- An accepted request either completes at once, refused or not, or starts to emit. -/
theorem exec_completes_or_emits (op : OpCode) (a : Byte) (s t : State) (hq : s.seq = .idle)
    (h : exec (decodeReq op a) s = .next t) :
    (∃ (u : State) (st : Status), t = u.complete st ∧ u.trace = s.trace) ∨
    (t.seq = .emit ∧ t.lastStatus = s.lastStatus ∧ t.trace = s.trace) := by
  rcases exec_inversion op a s t hq h with ⟨st, rfl, -⟩ | ⟨-, -, rfl⟩ | ⟨-, -, -, rfl⟩ | ⟨-, -, -, rfl⟩ | ⟨-, -, rfl⟩ |
    ⟨-, -, rfl⟩ | ⟨-, rfl⟩
  case inl => exact .inl ⟨_, st, rfl, rfl⟩
  case inr.inl | inr.inr.inl | inr.inr.inr.inl => exact .inr ⟨rfl, rfl, rfl⟩
  all_goals exact .inl ⟨_, .ok, rfl, rfl⟩

end Sys2Proof.Machine
end

section
/-! The five kinds of edge of a state of the invariant, as far as the registers beside the sequencer can tell them apart. -/

namespace Sys2Proof.Machine

/-- A request is accepted at the coming edge (R193). -/
abbrev State.accepting (s : State) : Prop := s.seq = .idle ∧ s.nextIn.reqValid = true

/-- The physical write in flight is answered `fail` at the coming edge (R52). -/
abbrev State.busFails (s : State) : Prop := s.seq = .emit ∧ s.dump = false ∧ s.nextIn.busFail = true

/-- The dump write in flight is answered `fail` at the coming edge (R56). -/
abbrev State.dumpFails (s : State) : Prop := s.seq = .emit ∧ s.dump = true ∧ s.nextIn.dumpFail = true

/-- `t` has the registers of `s`: it differs in the sequencer and the inputs, and in at most one write on the trace. -/
structure KeepsRegisters (s t : State) : Prop where
  opQ : t.opQ = s.opQ
  argQ : t.argQ = s.argQ
  bl : t.bl = s.bl
  dump : t.dump = s.dump
  inited : t.inited = s.inited
  fault : t.fault = s.fault
  cause : t.cause = s.cause
  dumpWarn : t.dumpWarn = s.dumpWarn
  lastStatus : t.lastStatus = s.lastStatus
  trace : ∃ ws, t.trace = s.trace ++ ws ∧ ws.length ≤ 1 ∧ ∀ op st, .done op st ∉ ws

theorem keepsRegisters_popIn (s : State) : KeepsRegisters s s.popIn :=
  ⟨rfl, rfl, rfl, rfl, rfl, rfl, rfl, rfl, rfl, [], by simp⟩

theorem keepsRegisters_write (s : State) (e : Event) (he : ∀ op st, .done op st ≠ e) :
    KeepsRegisters s (s.popIn.record e) :=
  ⟨rfl, rfl, rfl, rfl, rfl, rfl, rfl, rfl, rfl, [e], by simp [he]⟩

/-- The sequencer's own elements are free to move. -/
theorem KeepsRegisters.withSequencer {s t : State} (h : KeepsRegisters s t) (q : Seq) (p : Ptr) (d : Nat) :
    KeepsRegisters s { t with seq := q, ptr := p, dly := d } :=
  { h with }

/-- The edges of a state of the invariant by what they write, each with the guard that tells it from the others. A quiet edge
moves the sequencer, writes at most one byte, and may end a whole emission list. -/
inductive EdgeOutcome (s t : State) : Prop where
  | reset (hr : s.nextIn.rst = true) (ht : t = s.popIn.applyReset)
  | accepted (hr : s.nextIn.rst = false) (ha : s.accepting)
      (he : exec (decodeReq s.nextIn.reqOp s.nextIn.reqArg) s.popIn = .next t)
  | busFailed (hr : s.nextIn.rst = false) (hb : s.busFails) (ht : t = s.popIn.raiseTransportError)
  | dumpFailed (hr : s.nextIn.rst = false) (hd : s.dumpFails) (ht : t = s.popIn.raiseDumpSinkError)
  | quiet (hr : s.nextIn.rst = false) (ha : ¬ s.accepting) (hb : ¬ s.busFails) (hd : ¬ s.dumpFails)
      (u : State) (hu : KeepsRegisters s u)
      (ht : t.seq ≠ .fin ∧ t = u ∨ (s.seq = .emit ∨ s.seq = .settle) ∧ t = u.finish)

/-- Each case of `step_inversion` is of one kind. -/
theorem step_outcome (s t : State) (h : s.Inv) (hs : step s = .next t) : EdgeOutcome s t := by
  have popped := keepsRegisters_popIn s
  have bus_written := keepsRegisters_write s (.busWrite s.curByte) (by simp)
  have dump_written := keepsRegisters_write s (.dumpWrite s.curByte) (by simp)
  rcases step_inversion s t h hs with ⟨hr, ht⟩ | ⟨hr, hc⟩
  · exact .reset hr ht
  rcases hc with ⟨hq, hv, rfl⟩ | ⟨hq, hv, he⟩ | ⟨hq, hd, hf, ha, rfl⟩ | ⟨hq, hd, hf, ht⟩ | ⟨hq, hd, hf, ha, hn, rfl⟩ |
    ⟨hq, hd, hf, ha, hn, -, ht⟩ | ⟨p, hq, hd, hf, ha, hn, -, rfl⟩ | ⟨hq, hd, hf, ha, rfl⟩ | ⟨hq, hd, hf, ht⟩ |
    ⟨hq, hd, hf, ha, -, ht⟩ | ⟨p, hq, hd, hf, ha, -, rfl⟩ | ⟨hq, hn, rfl⟩ | ⟨hq, hn, -, ht⟩ | ⟨p, hq, hn, -, rfl⟩ |
    ⟨hq, rfl⟩
  · exact .quiet hr (by simp [hv]) (by simp [hq]) (by simp [hq]) _ popped (.inl ⟨by simp [hq], rfl⟩)
  · exact .accepted hr ⟨hq, hv⟩ he
  · exact .quiet hr (by simp [hq]) (by simp [hf]) (by simp [hd]) _ popped (.inl ⟨by simp [hq], rfl⟩)
  · exact .busFailed hr ⟨hq, hd, hf⟩ ht
  · exact .quiet hr (by simp [hq]) (by simp [hf]) (by simp [hd]) _ (bus_written.withSequencer _ _ _) (.inl ⟨by simp, rfl⟩)
  · exact .quiet hr (by simp [hq]) (by simp [hf]) (by simp [hd]) _ bus_written (.inr ⟨.inl hq, ht⟩)
  · exact .quiet hr (by simp [hq]) (by simp [hf]) (by simp [hd]) _ (bus_written.withSequencer _ _ _) (.inl ⟨by simp, rfl⟩)
  · exact .quiet hr (by simp [hq]) (by simp [hd]) (by simp [hf]) _ popped (.inl ⟨by simp [hq], rfl⟩)
  · exact .dumpFailed hr ⟨hq, hd, hf⟩ ht
  · exact .quiet hr (by simp [hq]) (by simp [hd]) (by simp [hf]) _ dump_written (.inr ⟨.inl hq, ht⟩)
  · exact .quiet hr (by simp [hq]) (by simp [hd]) (by simp [hf]) _ (dump_written.withSequencer _ _ _) (.inl ⟨by simp, rfl⟩)
  · exact .quiet hr (by simp [hq]) (by simp [hq]) (by simp [hq]) _ (popped.withSequencer _ _ _) (.inl ⟨by simp [hq], rfl⟩)
  · exact .quiet hr (by simp [hq]) (by simp [hq]) (by simp [hq]) _ (popped.withSequencer s.seq s.ptr 0) (.inr ⟨.inr hq, ht⟩)
  · exact .quiet hr (by simp [hq]) (by simp [hq]) (by simp [hq]) _ (popped.withSequencer _ _ _) (.inl ⟨by simp, rfl⟩)
  · exact .quiet hr (by simp [hq]) (by simp [hq]) (by simp [hq]) _ (popped.withSequencer _ _ _) (.inl ⟨by simp, rfl⟩)

/-- At an edge that accepts nothing no request with a further property `P` is accepted either. -/
theorem State.accepts_nothing {s : State} (ha : ¬ s.accepting) (P : Prop) :
    ¬ (s.seq = .idle ∧ s.nextIn.reqValid = true ∧ P) := fun ⟨hq, hv, _⟩ => ha ⟨hq, hv⟩

/-- The cause goes with the fault (R31, R213). -/
theorem legal_cause (s : State) (h : s.legal = true) :
    (s.fault = true → s.cause = 1) ∧ (s.fault = false → s.cause = 0) := by
  simp only [State.legal, Bool.and_eq_true, decide_eq_true_eq] at h
  obtain ⟨⟨-, hc⟩, -⟩ := h
  exact hc

end Sys2Proof.Machine
end

section
/-! Who writes which register (R21, R27 to R33, R35): one case for each kind of edge. -/

namespace Sys2Proof.Machine

/-- Settles O28: of the kinds of edge only reset and acceptance touch the latches. -/
theorem latchWriters : Obligations.LatchWriters := by
  intro s t h hs
  cases step_outcome s t h hs with
  | reset hr ht => simp [hr, ht]
  | accepted hr ha he =>
    have hx := exec_registers _ _ s.popIn _ ha.1 he
    simp [hr, ha, hx.opQ, hx.argQ]
  | busFailed hr hb ht => simp [hr, hb, ht]
  | dumpFailed hr hd ht => simp [hr, hd, ht]
  | quiet hr ha hb hd u hu ht => rcases ht with ⟨-, rfl⟩ | ⟨-, rfl⟩ <;> simp [hr, ha, hu.opQ, hu.argQ]

/-- Settles O29: an accepted request writes `bl` only if it is a BL that is not refused. -/
theorem backlightWriters : Obligations.BacklightWriters := by
  intro s t h hs
  cases step_outcome s t h hs with
  | reset hr ht => simp [hr, ht]
  | accepted hr ha he =>
    have hx := (exec_registers _ _ s.popIn _ ha.1 he).bl
    simp +contextual [hr, ha, hx, onBit]
  | busFailed hr hb ht => simp [hr, hb, ht]
  | dumpFailed hr hd ht => simp [hr, hd, ht]
  | quiet hr ha hb hd u hu ht =>
    rcases ht with ⟨-, rfl⟩ | ⟨-, rfl⟩ <;> simp [hr, State.accepts_nothing ha, hu.bl]

/-- Settles O30: DUMP_ON and DUMP_OFF write `dump` at acceptance, a failed dump write on its way back to the bus. -/
theorem dumpModeWriters : Obligations.DumpModeWriters := by
  intro s t h hs
  cases step_outcome s t h hs with
  | reset hr ht => simp [hr, ht]
  | accepted hr ha he =>
    have hx := (exec_registers _ _ s.popIn _ ha.1 he).dump
    have distinct : opDumpOff ≠ opDumpOn := by decide
    cases hf : s.fault <;> simp +contextual [hr, ha, hx, hf, distinct]
  | busFailed hr hb ht => simp [hr, hb, ht]
  | dumpFailed hr hd ht => simp [hr, hd, ht]
  | quiet hr ha hb hd u hu ht =>
    rcases ht with ⟨-, rfl⟩ | ⟨-, rfl⟩ <;> simp [hr, State.accepts_nothing ha, hd, hu.dump]

/-- Settles O31: a quiet edge writes `inited` only where it ends the list of an INIT; the completions that are no such end
carry another code, or leave no emitting state. -/
theorem initedWriters : Obligations.InitedWriters := by
  intro s t h hs
  cases step_outcome s t h hs with
  | reset hr ht => simp [hr, ht]
  | accepted hr ha he =>
    have hx := (exec_registers _ _ s.popIn _ ha.1 he).inited
    cases hf : s.fault <;> simp +contextual [hr, ha, hx, hf]
  | busFailed hr hb ht => simp [hr, hb, ht]
  | dumpFailed hr hd ht => simp [hr, hd, ht]
  | quiet hr ha hb hd u hu ht =>
    rcases ht with ⟨hf, rfl⟩ | ⟨hq, rfl⟩
    · simp [hr, State.accepts_nothing ha, hf, hu.inited]
    · simp +contextual [hr, State.accepts_nothing ha, hq, hu.inited, hu.opQ]

/-- Settles O32: the cause is that of the invariant where the edge leaves `fault`, and is written with it elsewhere. -/
theorem faultWriters : Obligations.FaultWriters := by
  intro s t h hs
  have hc := legal_cause s h.2
  cases step_outcome s t h hs with
  | reset hr ht => simp [hr, ht]
  | accepted hr ha he =>
    have hx := exec_registers _ _ s.popIn _ ha.1 he
    by_cases ho : s.nextIn.reqOp = opRecover
    · simp [hr, ha, hx.fault, hx.cause, ho]
    · simpa [hr, ha, hx.fault, hx.cause, ho] using hc
  | busFailed hr hb ht => simp [hr, hb, ht]
  | dumpFailed hr hd ht => simpa [hr, hd, ht] using hc
  | quiet hr ha hb hd u hu ht =>
    rcases ht with ⟨-, rfl⟩ | ⟨-, rfl⟩ <;>
      simpa [hr, State.accepts_nothing ha, hb, hu.fault, hu.cause] using hc

/-- Settles O33: DUMP_ON clears the warning at acceptance, a failed dump write sets it. -/
theorem dumpWarnWriters : Obligations.DumpWarnWriters := by
  intro s t h hs
  cases step_outcome s t h hs with
  | reset hr ht => simp [hr, ht]
  | accepted hr ha he =>
    have hx := (exec_registers _ _ s.popIn _ ha.1 he).dumpWarn
    cases hf : s.fault <;> simp +contextual [hr, ha, hx, hf]
  | busFailed hr hb ht => simp [hr, hb, ht]
  | dumpFailed hr hd ht => simp [hr, hd, ht]
  | quiet hr ha hb hd u hu ht =>
    rcases ht with ⟨-, rfl⟩ | ⟨-, rfl⟩ <;> simp [hr, State.accepts_nothing ha, hd, hu.dumpWarn]

/-- What the edge that enters `FIN` leaves, if the completed state has added at most one event and no completion (R204). -/
theorem complete_records (s u : State) (st : Status) (ws : List Event) (hw : u.trace = s.trace ++ ws)
    (hl : ws.length ≤ 1) :
    (u.complete st).ptr = ⟨0, false, 0⟩ ∧ (u.complete st).dly = 0 ∧
    ∃ st' es, (u.complete st).lastStatus = Status.code st' ∧
      (u.complete st).trace = s.trace ++ es ++ [.done (u.complete st).opQ st'] ∧ es.length ≤ 1 :=
  ⟨rfl, rfl, st, ws, rfl, by simp [hw], hl⟩

/-- Settles O19: every kind of edge that enters `FIN` is a `complete`; the others leave the status and complete nothing. -/
theorem completionRecordsStatus : Obligations.CompletionRecordsStatus := by
  refine ⟨fun s t h hs => ⟨rfl, ?_⟩, rfl, rfl, rfl, rfl, rfl⟩
  cases step_outcome s t h hs with
  | reset hr ht => simp [hr, ht]
  | accepted hr ha he =>
    rcases exec_completes_or_emits _ _ s.popIn _ ha.1 he with ⟨u, st, rfl, hu⟩ | ⟨hq, hl, ht⟩
    · have hc := complete_records s u st [] (by simpa using hu) (by simp)
      exact ⟨by simp [hr], fun _ _ => hc, by simp⟩
    · simp [hr, hq, hl, ht]
  | busFailed hr hb ht =>
    have hc := complete_records s ((s.popIn.record (.busFail s.curByte)).setFault) .eTransport [.busFail s.curByte] rfl
      le_rfl
    subst ht
    exact ⟨by simp [hr], fun _ _ => hc, by simp⟩
  | dumpFailed hr hd ht => simp [hr, ht]
  | quiet hr ha hb hd u hu ht =>
    obtain ⟨ws, hw, hl, hn⟩ := hu.trace
    rcases ht with ⟨hf, rfl⟩ | ⟨-, rfl⟩
    · simp [hr, hf, hu.lastStatus, hw, hn]
    · have hc := complete_records s { u with inited := u.inited || decide (u.opQ = opInit) } .ok ws hw hl
      exact ⟨by simp [hr], fun _ _ => hc, by simp⟩

end Sys2Proof.Machine
end

section
/-! The reset values (R45) and the STATUS word (R34). -/

namespace Sys2Proof.Machine

/-- Settles O2: `resetWith` is the table of R45, and the STATUS word has one bit that is not 0 in every reset state. -/
theorem resetStateHoldsSpecValues : Obligations.ResetStateHoldsSpecValues := by
  intro c
  have stat : (State.resetWith c).stat = 0b00#2 ++ BitVec.ofBool c.blReset ++ 0b00000#5 := by
    simp only [State.stat, State.busy, State.resetWith]
    cases c.blReset <;> decide
  exact ⟨rfl, rfl, rfl, rfl, rfl, rfl, rfl, rfl, rfl, rfl, rfl, rfl, rfl, rfl, rfl, rfl, rfl, stat⟩

/-- The bits of a word put together from six fields of one bit and two zero bits on top, as R34 writes the STATUS word. -/
theorem statusFields (b5 b4 b3 b2 b1 b0 : Bool) (k : Nat) :
    BitVec.getLsbD (0#2 ++ BitVec.ofBool b5 ++ BitVec.ofBool b4 ++ BitVec.ofBool b3 ++ BitVec.ofBool b2 ++
      BitVec.ofBool b1 ++ BitVec.ofBool b0) k = [b0, b1, b2, b3, b4, b5].getD k false := by
  simp only [BitVec.getLsbD_append, BitVec.getLsbD_ofBool, BitVec.getLsbD_zero]
  match k with
  | 0 | 1 | 2 | 3 | 4 | 5 | k + 6 => simp

/-- R55: the ports need opposite values of `dump`. -/
theorem ports_exclusive (s : State) : (s.busValid && s.dumpValid) = false := by
  cases hd : s.dump <;> simp [State.busValid, State.dumpValid, hd]

/-- Settles O45: the STATUS word is six fields of one bit under two zero bits, and `dump` selects one port. -/
theorem statusWordBits : Obligations.StatusWordBits := by
  intro s
  have bit (k : Nat) : s.outputs.stat.getLsbD k = [s.busy, s.inited, s.fault, s.dump, s.dumpWarn, s.bl].getD k false :=
    statusFields _ _ _ _ _ _ k
  have busy : s.busy = decide (s.seq ≠ .idle) := by cases h : s.seq <;> simp [State.busy, h]
  exact ⟨(bit 0).trans busy, bit 1, bit 2, bit 3, bit 4, bit 5, bit 6, bit 7, ports_exclusive s⟩

end Sys2Proof.Machine
end

section
/-! The pointer walk (R24, R25, R129). The pointer functions read the configuration through its wake form only and a pointer
has 64 values, so the walk of each operation is checked pointer by pointer, against the length of the list (R92). -/

namespace Sys2Proof.Machine

theorem initItem_length (c : Cfg) (st : BitVec 3) (bl : Bool) :
    (initItem c st bl).length = if wakeItem st && c.wakeForm == .nibble then 3 else 6 := by
  unfold initItem
  split <;> rfl

/-- The length of the list of an emitting operation (R92). -/
def emitLength (f : WakeForm) (op : OpCode) : Nat :=
  if op = opInit then if f = .nibble then 36 else 48 else if op = opBl then 1 else 6

/-- Four wake items of one or two strobes, and four items of two strobes. -/
theorem initList_length (c : Cfg) (bl : Bool) : (initList c bl).length = emitLength c.wakeForm opInit := by
  cases hw : c.wakeForm <;> simp [initList, initItem_length, hw, wakeItem, emitLength]

theorem emits_cases (op : OpCode) (h : emits op = true) : op = opInit ∨ op = opCmd ∨ op = opData ∨ op = opBl := by
  revert op; decide

theorem emitList_length (c : Cfg) (op : OpCode) (arg : Byte) (bl : Bool) (h : emits op = true) :
    (emitList c op arg bl).length = emitLength c.wakeForm op := by
  obtain rfl | rfl | rfl | rfl := emits_cases op h
  · exact initList_length c bl
  all_goals rfl

/-- One step of the walk along a list of length `n`: to the next index, or, at the last one, to the end. -/
def WalksFrom (c : Cfg) (op : OpCode) (n : Nat) (p : Ptr) : Prop :=
  (∀ q, nextPtr c op p = some q → legalPtr c op q = true ∧ ptrIndex c op q = ptrIndex c op p + 1) ∧
  (nextPtr c op p = none ↔ ptrIndex c op p + 1 = n)

theorem walksFrom_of_legal (f : WakeForm) (op : OpCode) (h : emits op = true) :
    ∀ p, legalPtr (wakeCfg f) op p = true → WalksFrom (wakeCfg f) op (emitLength f op) p := by
  apply Ptr.forall_of_fields
  unfold WalksFrom
  obtain rfl | rfl | rfl | rfl := emits_cases op h <;> cases f <;> decide

theorem startPtr_legal (f : WakeForm) (op : OpCode) (h : emits op = true) :
    legalPtr (wakeCfg f) op (startPtr (wakeCfg f) op) = true ∧ ptrIndex (wakeCfg f) op (startPtr (wakeCfg f) op) = 0 := by
  obtain rfl | rfl | rfl | rfl := emits_cases op h <;> cases f <;> decide

/-- Settles O37: the walk under the configuration is the walk under its wake form. -/
theorem pointerWalkFollowsList : Obligations.PointerWalkFollowsList := by
  intro c op arg bl h
  simp only [emitList_length c op arg bl h, nextPtr_wakeForm c, startPtr_wakeForm c, legalPtr_wakeForm c,
    ptrIndex_wakeForm c]
  obtain ⟨start_legal, start_index⟩ := startPtr_legal c.wakeForm op h
  exact ⟨start_legal, start_index, walksFrom_of_legal c.wakeForm op h⟩

end Sys2Proof.Machine
end

section
/-! The byte at a pointer and the list it is taken from (R25, R128): the strobe, the byte transfer and the INIT item each say
what stands at an index of theirs; an INIT item stands in its list after the items before it. -/

namespace Sys2Proof.Machine

/-- The write of a phase of the strobe of a nibble (R121). -/
def strobeByte (c : Cfg) (n : Nibble) (rs bl : Bool) (phase : BitVec 2) : Byte :=
  if phase = 1 then frame c n rs bl ||| c.enBit else frame c n rs bl

/-- The pointer of every operation but BL names a write of a strobe. -/
theorem cur_eq_strobeByte (c : Cfg) (op : OpCode) (arg : Byte) (bl : Bool) (p : Ptr) (h : op ≠ opBl) :
    cur c op arg bl p = strobeByte c (if p.nib then loNibble (byteOf c op arg p.step) else hiNibble (byteOf c op arg p.step))
      (decide (op = opData)) bl p.phase := by
  simp [cur, strobeByte, h]

/-- Taking the enable bit off a frame leaves the frame, which has none (R120, R121). -/
theorem frame_without_enable (c : Cfg) (hf : CfgFacts c) (n : Nibble) (rs bl : Bool) :
    frame c n rs bl &&& ~~~c.enBit = frame c n rs bl :=
  and_not_of_and_zero _ _ <| frame_and_clear c hf c.enBit hf.en_nib (by rw [BitVec.and_comm, hf.en_bl]) hf.rs_en n rs bl

theorem strobe_getElem? (c : Cfg) (hf : CfgFacts c) (n : Nibble) (rs bl : Bool) (phase : BitVec 2) (hp : phase.toNat < 3) :
    (strobe c n rs bl)[phase.toNat]? = some (strobeByte c n rs bl phase) := by
  have phases : phase = 0 ∨ phase = 1 ∨ phase = 2 := by revert phase; decide
  rcases phases with rfl | rfl | rfl <;> simp [strobe, strobeByte, frame_without_enable c hf]

theorem byteSeq_getElem? (c : Cfg) (hf : CfgFacts c) (b : Byte) (rs bl nib : Bool) (phase : BitVec 2)
    (hp : phase.toNat < 3) :
    (byteSeq c b rs bl)[3 * nib.toNat + phase.toNat]? =
      some (strobeByte c (if nib then loNibble b else hiNibble b) rs bl phase) := by
  have first := strobe_getElem? c hf (hiNibble b) rs bl phase hp
  have second := strobe_getElem? c hf (loNibble b) rs bl phase hp
  cases nib
  · rw [byteSeq, List.getElem?_append_left (by simpa [strobe_length] using hp)]
    simpa using first
  · rw [byteSeq, List.getElem?_append_right (by simp [strobe_length])]
    simpa [strobe_length] using second

/-- The index at which the item of a step begins in the list of INIT (R141). -/
def itemStart (f : WakeForm) (step : BitVec 3) : Nat :=
  if f = .nibble then if wakeItem step then 3 * step.toNat else 12 + 6 * (step.toNat - 4) else 6 * step.toNat

/-- The steps of INIT in order (R141). -/
def initSteps : List (BitVec 3) := [0, 1, 2, 3, 4, 5, 6, 7]

theorem initList_eq_flatten (c : Cfg) (bl : Bool) : initList c bl = (initSteps.map (initItem c · bl)).flatten := by
  simp [initList, initSteps]

theorem initItems_before_length (c : Cfg) (bl : Bool) (step : BitVec 3) :
    ((initSteps.take step.toNat).map (initItem c · bl)).flatten.length = itemStart c.wakeForm step := by
  simp only [List.length_flatten, List.map_map, Function.comp_def, initItem_length]
  cases c.wakeForm <;> revert step <;> decide

/-- An item stands in the list after the items before it. -/
theorem initList_getElem? (c : Cfg) (bl : Bool) (step : BitVec 3) (k : Nat) (v : Byte)
    (h : (initItem c step bl)[k]? = some v) : (initList c bl)[itemStart c.wakeForm step + k]? = some v := by
  have split_steps : initSteps = initSteps.take step.toNat ++ step :: initSteps.drop (step.toNat + 1) := by
    clear h; revert step; decide
  have in_item : k < (initItem c step bl).length := (List.getElem?_eq_some_iff.mp h).1
  rw [initList_eq_flatten, split_steps, List.map_append, List.map_cons, List.flatten_append, List.flatten_cons,
    ← initItems_before_length c bl step, List.getElem?_append_right (Nat.le_add_right ..), Nat.add_sub_cancel_left,
    List.getElem?_append_left in_item, h]

/-- The byte at a legal pointer of INIT, in its item: a wake item in `NIBBLE` form is one strobe, of the low nibble, and its
legal pointers have `nib = 1` (R24, R141). -/
theorem initItem_getElem? (c : Cfg) (hf : CfgFacts c) (arg : Byte) (bl : Bool) (p : Ptr)
    (h : legalPtr c opInit p = true) :
    ∃ k, ptrIndex c opInit p = itemStart c.wakeForm p.step + k ∧
      (initItem c p.step bl)[k]? = some (cur c opInit arg bl p) := by
  have not_bl : opInit ≠ opBl := by decide
  have not_data : opInit ≠ opData := by decide
  simp only [legalPtr, if_true, Bool.and_eq_true, decide_eq_true_eq] at h
  obtain ⟨hp, hn⟩ := h
  simp only [cur_eq_strobeByte c opInit arg bl p not_bl, byteOf, not_data, if_true, decide_false]
  by_cases hw : wakeItem p.step = true ∧ c.wakeForm = .nibble
  · have nib : p.nib = true := by simpa [firstNib, hw] using hn
    refine ⟨p.phase.toNat, by simp [ptrIndex, itemStart, hw], ?_⟩
    simpa [initItem, hw, nib] using strobe_getElem? c hf _ false bl p.phase hp
  · refine ⟨3 * p.nib.toNat + p.phase.toNat, ?_, ?_⟩
    · cases hc : c.wakeForm with
      | nibble =>
        have not_wake : ¬ wakeItem p.step = true := fun wake => hw ⟨wake, hc⟩
        simp [ptrIndex, itemStart, hc, not_wake]; omega
      | byte => simp [ptrIndex, itemStart, hc]; omega
    · simpa [initItem, hw] using byteSeq_getElem? c hf _ false bl p.nib p.phase hp

/-- R128: the byte at a legal pointer is the element of the emission list at the pointer's index. -/
theorem emitList_getElem?_ptrIndex (c : Cfg) (op : OpCode) (arg : Byte) (bl : Bool) (p : Ptr) (hc : c.wf = true)
    (h : legalPtr c op p = true) : (emitList c op arg bl)[ptrIndex c op p]? = some (cur c op arg bl p) := by
  have hf := cfgFacts c hc
  have op_cases : op = opInit ∨ op = opBl ∨ op = opCmd ∨ op = opData := by
    by_contra hne
    simp only [not_or] at hne
    simp [legalPtr, hne] at h
  rcases op_cases with rfl | rfl | op_cases
  · obtain ⟨k, index, item⟩ := initItem_getElem? c hf arg bl p h
    rw [index]
    exact initList_getElem? c bl p.step k _ item
  · have zero : p = Ptr.zero := by simpa [legalPtr, opCodes] using h
    subst zero
    rfl
  · obtain ⟨step_zero, hp⟩ : p.step = 0 ∧ p.phase.toNat < 3 := by
      rcases op_cases with rfl | rfl <;> simpa [legalPtr, opCodes] using h
    have bytes (rs : Bool) := byteSeq_getElem? c hf arg rs bl p.nib p.phase hp
    rcases op_cases with rfl | rfl
    · simpa [emitList, ptrIndex, opCodes, step_zero, cur_eq_strobeByte, byteOf] using bytes false
    · simpa [emitList, ptrIndex, opCodes, step_zero, cur_eq_strobeByte, byteOf] using bytes true

end Sys2Proof.Machine
end

section
/-! Writes in flight (R52, R56, R211): waiting for an answer, and a dump write that is answered `ok`. -/

namespace Sys2Proof.Machine

theorem quiet_silent : In.quiet.silent := ⟨rfl, rfl, rfl⟩

/-- A silent edge leaves a write in flight as it is, on either port. -/
theorem step_silent (s : State) (h : s.Inv) (hq : s.seq = .emit) (he : s.nextIn.silent) : step s = .next s.popIn := by
  obtain ⟨hr, hb, hd⟩ := he
  rw [step_of_inv s h hr]
  cases hm : s.dump <;> simp [edge, hq, State.emitEdge, hm, hb, hd, State.busWrite, State.dumpWrite]

/-- The edges beyond the listed ones are silent as well, so a run may go past the list. -/
theorem run_silent (k : Nat) (s : State) (h : s.Inv) (hq : s.seq = .emit) (he : ∀ e ∈ s.inputs.take k, e.silent) :
    run k s = .next { s with inputs := s.inputs.drop k } := by
  induction k generalizing s with
  | zero => rfl
  | succ k ih =>
    obtain ⟨next_silent, later_silent⟩ : s.nextIn.silent ∧ ∀ e ∈ s.popIn.inputs.take k, e.silent := by
      cases hi : s.inputs with
      | nil => exact ⟨by simpa [State.nextIn, hi] using quiet_silent, by simp [hi]⟩
      | cons e es => simpa [State.nextIn, hi] using he
    rw [run_succ k s _ (step_silent s h hq next_silent)]
    simpa using ih s.popIn h hq later_silent

/-- Settles O26: the state left differs in the coming inputs alone, which no output reads. -/
theorem unansweredWriteWaits : Obligations.UnansweredWriteWaits := fun s k h hq he =>
  ⟨_, run_silent k s h hq he, rfl, rfl⟩

theorem run_quiet (w : Nat) (s : State) (rest : List In) (h : s.Inv) (hq : s.seq = .emit)
    (hi : s.inputs = List.replicate w In.quiet ++ rest) : run w s = .next { s with inputs := rest } := by
  have silent : ∀ e ∈ s.inputs.take w, e.silent := by
    intro e he
    rw [hi, List.take_left' List.length_replicate] at he
    exact List.eq_of_mem_replicate he ▸ quiet_silent
  simpa [hi] using run_silent w s h hq silent

theorem step_dumpWrite_ok (s : State) (rest : List In) (h : s.Inv) (hq : s.seq = .emit) (hd : s.dump = true)
    (hi : s.inputs = In.dump .ok :: rest) :
    step s = .next ({ s with inputs := rest, trace := s.trace ++ [.dumpWrite s.curByte] } : State).advance := by
  have hn := nextIn_cons s _ rest hi
  rw [step_of_inv s h (by simp [hn]), hn, popIn_cons s _ rest hi]
  simp only [edge, hq, State.emitEdge, hd, if_true, In.dump_dumpAnswer, State.dumpWrite]
  rfl

/-- R197: after any wait, the byte is logged and the sequencer advances, with no settle delay. -/
theorem run_dumpWrite_ok (w : Nat) (s : State) (rest : List In) (h : s.Inv) (hq : s.seq = .emit) (hd : s.dump = true)
    (hi : s.inputs = dumpEdges [w] ++ rest) :
    run (w + 1) s = .next ({ s with inputs := rest, trace := s.trace ++ [.dumpWrite s.curByte] } : State).advance := by
  have waited : run w s = .next { s with inputs := In.dump .ok :: rest } :=
    run_quiet w s _ h hq (by simpa [dumpEdges] using hi)
  rw [run_add w 1 s _ waited]
  exact run_succ 0 _ _ (step_dumpWrite_ok { s with inputs := In.dump .ok :: rest } rest h hq hd rfl)

end Sys2Proof.Machine
end

section
/-! An accepted operation that emits (R124, R194): where the request leaves the block, and how its list is then emitted on the
DUMP port (R127, R197). -/

namespace Sys2Proof.Machine

/-- The registers as acceptance of an emitting request leaves them: the latches, `bl` of a BL, `inited = 0` of an INIT
(R194). -/
def State.acceptedBy (i : Instr) (s : State) : State :=
  { s.latch i.op i.arg with bl := s.blAfter i, inited := if i.op = opInit then false else s.inited }

theorem accept_of_check_none (op : OpCode) (arg : Byte) (check : State → Option Status) (effect : State → State)
    (s : State) (hq : s.seq = .idle) (hc : check s = none) : s.accept op arg check effect = effect (s.latch op arg) := by
  simp [State.accept, hq, hc]

theorem exec_of_emitsOn (i : Instr) (s : State) (hq : s.seq = .idle) (h : s.emitsOn i) :
    exec i s = .next (s.acceptedBy i).startEmission := by
  obtain ⟨he, hf, hi⟩ := h
  have passes (hn : i.op ≠ opInit) : s.notInitCheck = none := by simp [State.notInitCheck, hf, hi.resolve_left hn]
  cases i with
  | init a => exact congrArg _ (accept_of_check_none _ _ _ _ s hq (by simp [State.faultedCheck, hf]))
  | cmd b => exact congrArg _ (accept_of_check_none _ _ _ _ s hq (passes nofun))
  | data b => exact congrArg _ (accept_of_check_none _ _ _ _ s hq (passes nofun))
  | bl a => exact congrArg _ (accept_of_check_none _ _ _ _ s hq (passes nofun))
  | dumpOn a | dumpOff a | recover a | reserved7 a => cases he

/-- The block that has accepted an emitting request meets the invariant at every legal pointer, whatever has been emitted. -/
theorem acceptedBy_present_inv (i : Instr) (s : State) (h : s.Inv) (hq : s.seq = .idle) (he : s.emitsOn i) (p : Ptr)
    (hp : legalPtr s.cfg i.op p = true) (l : List In) (tr : List Event) :
    (({ s.acceptedBy i with inputs := l, trace := tr } : State).present p).Inv := by
  obtain ⟨-, dly, cause, status⟩ := (legal_quiet s (.inl hq)).mp h.2
  obtain ⟨op_emits, not_faulted, init_or_inited⟩ := he
  have inited : (s.acceptedBy i).inited = decide (i.op ≠ opInit) := by
    by_cases ho : i.op = opInit <;> simp_all [State.acceptedBy]
  exact ⟨h.1, (legal_emit _ rfl).mpr ⟨dly, op_emits, not_faulted, hp, inited, cause.2 not_faulted, status⟩⟩

theorem dumpEdges_append (ws ws' : List Nat) : dumpEdges (ws ++ ws') = dumpEdges ws ++ dumpEdges ws' := by
  induction ws with
  | nil => rfl
  | cons w ws ih => simp [dumpEdges, ih]

/-- The block that has accepted the request in `s` and logged `n` bytes of its list; the sequencer is not yet placed. -/
def State.logged (i : Instr) (n : Nat) (rest : List In) (s : State) : State :=
  { s.acceptedBy i with inputs := rest, trace := s.trace ++ ((s.listOf i).take n).map .dumpWrite }

theorem State.logged_succ (s : State) (i : Instr) (n : Nat) (l rest : List In) {v : Byte} (hv : (s.listOf i)[n]? = some v) :
    ({ s.logged i n l with inputs := rest, trace := (s.logged i n l).trace ++ [.dumpWrite v] } : State) =
      s.logged i (n + 1) rest := by
  simp [State.logged, List.take_add_one, hv]

section

/-! An emitting request accepted in dump mode. -/

variable (i : Instr) (s : State) (h : s.Inv) (hq : s.seq = .idle) (he : s.emitsOn i) (hd : s.dump = true)

include h hq he hd

/-- At the pointer whose index is the number of the writes so far, one more logs the byte of that index. -/
theorem run_dumpWrites_concat (ws : List Nat) (w : Nat) (p : Ptr) (rest : List In) (legal : legalPtr s.cfg i.op p = true)
    (index : ptrIndex s.cfg i.op p = ws.length)
    (before : run (ws.map (· + 1)).sum (s.acceptedBy i).startEmission =
      .next ((s.logged i ws.length (dumpEdges [w] ++ rest)).present p)) :
    run ((ws ++ [w]).map (· + 1)).sum (s.acceptedBy i).startEmission =
      .next ((s.logged i (ws.length + 1) rest).present p).advance := by
  have inv : ((s.logged i ws.length (dumpEdges [w] ++ rest)).present p).Inv :=
    acceptedBy_present_inv i s h hq he p legal _ _
  have byte : (s.listOf i)[ws.length]? = some ((s.logged i ws.length (dumpEdges [w] ++ rest)).present p).curByte :=
    index ▸ emitList_getElem?_ptrIndex s.cfg i.op i.arg (s.blAfter i) p h.1 legal
  rw [List.map_append, List.sum_append, run_add _ _ _ _ before, List.map_singleton, List.sum_singleton,
    run_dumpWrite_ok w _ rest inv rfl hd rfl]
  exact congrArg (fun u => Host.Outcome.next (u.present p).advance) (s.logged_succ i ws.length _ rest byte)

/-- R127, R129: fewer writes than the list is long lead to the pointer of their number. -/
theorem run_dumpWrites (ws : List Nat) (rest : List In) (hl : ws.length < (s.listOf i).length)
    (hi : s.inputs = dumpEdges ws ++ rest) :
    ∃ p, legalPtr s.cfg i.op p = true ∧ ptrIndex s.cfg i.op p = ws.length ∧
      run (ws.map (· + 1)).sum (s.acceptedBy i).startEmission = .next ((s.logged i ws.length rest).present p) := by
  obtain ⟨start_legal, start_index, walk⟩ := pointerWalkFollowsList s.cfg i.op i.arg (s.blAfter i) he.1
  induction ws using List.reverseRecOn generalizing rest with
  | nil =>
    obtain rfl : s.inputs = rest := hi
    have none_logged : s.logged i 0 s.inputs = s.acceptedBy i := by simp [State.logged, State.acceptedBy]
    exact ⟨_, start_legal, start_index, congrArg (fun u => Host.Outcome.next (State.startEmission u)) none_logged.symm⟩
  | append_singleton ws w ih =>
    rw [List.length_append, List.length_singleton] at hl ⊢
    obtain ⟨p, legal, index, before⟩ := ih (dumpEdges [w] ++ rest) (by omega) (by simp [hi, dumpEdges_append])
    obtain ⟨to_next, at_end⟩ := walk p legal
    obtain ⟨last, -⟩ | ⟨q, next, advanced⟩ := advance_cases ((s.logged i (ws.length + 1) rest).present p)
    · exact absurd (at_end.mp last) (by rw [index]; exact hl.ne)
    · obtain ⟨legal', index'⟩ := to_next q next
      exact ⟨q, legal', by rw [index', index],
        (run_dumpWrites_concat i s h hq he hd ws w p rest legal index before).trans (congrArg _ advanced)⟩

/-- R134: the last write, at which the walk ends, ends the operation. -/
theorem run_dumpList (ws : List Nat) (rest : List In) (hl : ws.length = (s.listOf i).length)
    (hi : s.inputs = dumpEdges ws ++ rest) :
    run (ws.map (· + 1)).sum (s.acceptedBy i).startEmission = .next (s.logged i ws.length rest).finish := by
  obtain ⟨start_legal, start_index, walk⟩ := pointerWalkFollowsList s.cfg i.op i.arg (s.blAfter i) he.1
  obtain rfl | ⟨ws, w, rfl⟩ := ws.eq_nil_or_concat'
  · have first := emitList_getElem?_ptrIndex s.cfg i.op i.arg (s.blAfter i) _ h.1 start_legal
    exact absurd hl (List.getElem?_eq_some_iff.mp (start_index ▸ first)).1.ne
  rw [List.length_append, List.length_singleton] at hl ⊢
  obtain ⟨p, legal, index, before⟩ :=
    run_dumpWrites i s h hq he hd ws (dumpEdges [w] ++ rest) (by omega) (by simp [hi, dumpEdges_append])
  obtain ⟨-, at_end⟩ := walk p legal
  obtain ⟨-, ended⟩ | ⟨q, next, -⟩ := advance_cases ((s.logged i (ws.length + 1) rest).present p)
  · exact (run_dumpWrites_concat i s h hq he hd ws w p rest legal index before).trans (congrArg _ ended)
  · exact absurd ((at_end.mpr (by rw [index]; exact hl)).symm.trans next) nofun

end

/-- R201, with nothing asserted at the edge. -/
theorem step_fin_quiet (s : State) (rest : List In) (h : s.Inv) (hq : s.seq = .fin) (hi : s.inputs = In.quiet :: rest) :
    step s = .next { s with seq := .idle, inputs := rest } := by
  have hn := nextIn_cons s _ rest hi
  rw [step_of_inv s h (by simp [hn]), hn, popIn_cons s _ rest hi]
  simp [edge, hq, State.finEdge]

/-- Settles O21: acceptance, the writes of the list, and the edge in `FIN`. -/
theorem dumpOperationCompletes : Obligations.DumpOperationCompletes := by
  intro i s ws rest h hq he hd hl hi
  obtain ⟨ptr, dly, cause, -⟩ := (legal_quiet s (.inl hq)).mp h.2
  have inv : (s.logged i ws.length (In.quiet :: rest)).finish.Inv := ⟨h.1, legal_complete .ok _ cause⟩
  refine ⟨_, exec_of_emitsOn i s hq he, ?_⟩
  rw [run_add _ 1 _ _ (run_dumpList i s h hq he hd ws (In.quiet :: rest) hl hi),
    run_succ 0 _ _ (step_fin_quiet _ rest inv rfl rfl)]
  have inited_at_end : ¬ i.op = opInit ∧ s.inited = true ∨ i.op = opInit := by
    obtain ⟨-, -, init_or_inited⟩ := he
    tauto
  simpa [State.endOf, State.finish, State.complete, State.logged, State.acceptedBy, State.latch, hl, ptr, dly] using
    inited_at_end

end Sys2Proof.Machine
end

section
/-! What an edge adds to the trace (R14, R57, R64, R67). -/

namespace Sys2Proof.Machine

/-- An event of a write of the current byte on the port `dump` selects (R64). -/
def State.writes (s : State) (e : Event) : Prop :=
  s.seq = .emit ∧
    (s.dump = false ∧ (e = .busWrite s.curByte ∨ e = .busFail s.curByte) ∨
     s.dump = true ∧ (e = .dumpWrite s.curByte ∨ e = .dumpFail s.curByte))

/-- `t` uses the edge at hand of `s` and has the trace of `s`, then perhaps a write, then perhaps a completion. -/
def AddsAtMost (s t : State) : Prop :=
  t.cfg = s.cfg ∧ t.inputs = s.inputs.tail ∧ ∃ (w : Option Event) (d : Option (OpCode × Status)),
    (∀ e ∈ w, s.writes e) ∧ t.trace = s.trace ++ w.toList ++ d.toList.map fun x => .done x.1 x.2

@[simp] theorem State.popIn_curByte (s : State) : s.popIn.curByte = s.curByte := rfl

/-- Each row of `step_inversion` by the write it makes and the completion it records. -/
theorem step_addsAtMost (s t : State) (h : s.Inv) (hs : step s = .next t) (hr : s.nextIn.rst = false) : AddsAtMost s t := by
  rcases step_inversion s t h hs with ⟨hr', -⟩ | ⟨-, hc⟩
  · simp [hr] at hr'
  rcases hc with ⟨-, -, rfl⟩ | ⟨hq, hv, he⟩ | ⟨-, -, -, -, rfl⟩ | ⟨hq, hd, -, rfl⟩ | ⟨hq, hd, -, -, -, rfl⟩ |
    ⟨hq, hd, -, -, -, -, rfl⟩ | ⟨p, hq, hd, -, -, -, -, rfl⟩ | ⟨-, -, -, -, rfl⟩ | ⟨hq, hd, -, rfl⟩ |
    ⟨hq, hd, -, -, -, rfl⟩ | ⟨p, hq, hd, -, -, -, rfl⟩ | ⟨-, -, rfl⟩ | ⟨-, -, -, rfl⟩ | ⟨p, -, -, -, rfl⟩ | ⟨-, rfl⟩
  · exact ⟨rfl, rfl, none, none, by simp⟩
  · obtain ⟨cfg, inputs⟩ := exec_frame _ _ _ he
    rcases exec_completes_or_emits _ _ s.popIn _ hq he with ⟨u, st, rfl, hu⟩ | ⟨-, -, ht⟩
    · exact ⟨cfg, inputs, none, some (u.opQ, st), by simp [hu]⟩
    · exact ⟨cfg, inputs, none, none, by simp [ht]⟩
  · exact ⟨rfl, rfl, none, none, by simp⟩
  · exact ⟨rfl, rfl, some (.busFail s.curByte), some (s.opQ, .eTransport), by simp [State.writes, hq, hd]⟩
  · exact ⟨rfl, rfl, some (.busWrite s.curByte), none, by simp [State.writes, hq, hd]⟩
  · exact ⟨rfl, rfl, some (.busWrite s.curByte), some (s.opQ, .ok), by simp [State.writes, hq, hd]⟩
  · exact ⟨rfl, rfl, some (.busWrite s.curByte), none, by simp [State.writes, hq, hd]⟩
  · exact ⟨rfl, rfl, none, none, by simp⟩
  · exact ⟨rfl, rfl, some (.dumpFail s.curByte), none, by simp [State.writes, hq, hd]⟩
  · exact ⟨rfl, rfl, some (.dumpWrite s.curByte), some (s.opQ, .ok), by simp [State.writes, hq, hd]⟩
  · exact ⟨rfl, rfl, some (.dumpWrite s.curByte), none, by simp [State.writes, hq, hd]⟩
  · exact ⟨rfl, rfl, none, none, by simp⟩
  · exact ⟨rfl, rfl, none, some (s.opQ, .ok), by simp⟩
  · exact ⟨rfl, rfl, none, none, by simp⟩
  · exact ⟨rfl, rfl, none, none, by simp⟩

/-- R14, R272: reset takes a `Done` off in `FIN`, and nothing in any other state. -/
theorem traceAfterReset_cases (s : State) :
    s.traceAfterReset = s.trace ∨ s.seq = .fin ∧ ∃ op st, s.trace = s.traceAfterReset ++ [.done op st] := by
  by_cases hq : s.seq = .fin
  · rw [State.traceAfterReset_of_fin s hq]
    exact (withdrawDone_cases s.trace).imp_right fun withdrawn => ⟨hq, withdrawn⟩
  · exact .inl (State.traceAfterReset_of_ne_fin s hq)

/-- Settles O34: an edge is a reset edge, or adds what its row of the table of R205 says. -/
theorem traceGrowsByTheSelectedWrite : Obligations.TraceGrowsByTheSelectedWrite := by
  intro s t h hs
  cases hr : s.nextIn.rst with
  | true =>
    rw [step_reset s h.1 hr] at hs
    injection hs with hs
    subst hs
    exact ⟨rfl, rfl, fun _ => traceAfterReset_cases s, nofun⟩
  | false =>
    obtain ⟨cfg, inputs, w, d, selected, grown⟩ := step_addsAtMost s t h hs hr
    refine ⟨cfg, inputs, nofun, fun _ => ⟨_, _, grown, ?_, ?_, ?_, fun e he => selected e (by simpa using he)⟩⟩
    · cases w <;> simp
    · cases d <;> simp
    · intro e he
      obtain ⟨⟨op, st⟩, -, rfl⟩ := List.mem_map.mp he
      exact ⟨op, st, rfl⟩

end Sys2Proof.Machine
end

section
/-! An emitting request at the operation level, every write answered `ok` (R57, R127, R254). -/

namespace Sys2Proof.Machine

@[simp] theorem busBytes_append (a b : List Event) : busBytes (a ++ b) = busBytes a ++ busBytes b := by
  induction a with
  | nil => rfl
  | cons e a ih => cases e <;> simp [busBytes, ih]

@[simp] theorem dumpLog_append (a b : List Event) : dumpLog (a ++ b) = dumpLog a ++ dumpLog b := by
  induction a with
  | nil => rfl
  | cons e a ih => cases e <;> simp [dumpLog, ih]

/-- The event of a byte the selected port takes: the DUMP port if `dump`, the bus if not (R64). -/
def okEvent (dump : Bool) (v : Byte) : Event := if dump then .dumpWrite v else .busWrite v

theorem busBytes_okEvents (dump : Bool) (bs : List Byte) : busBytes (bs.map (okEvent dump)) = if dump then [] else bs := by
  induction bs with
  | nil => cases dump <;> rfl
  | cons v bs ih => cases dump <;> simp_all [okEvent, busBytes]

theorem dumpLog_okEvents (dump : Bool) (bs : List Byte) : dumpLog (bs.map (okEvent dump)) = if dump then bs else [] := by
  induction bs with
  | nil => cases dump <;> rfl
  | cons v bs ih => cases dump <;> simp_all [okEvent, dumpLog]

/-- What `Run(L)` leaves when the writes `es` have emitted the rest of its list (R127). -/
def State.ranThrough (es : List Event) (s : State) : State :=
  ({ s with inited := s.inited || decide (s.opQ = opInit), trace := s.trace ++ es } : State).opComplete .ok

theorem busBytes_ranThrough (dump : Bool) (bs : List Byte) (s : State) :
    busBytes (s.ranThrough (bs.map (okEvent dump))).trace = busBytes s.trace ++ if dump then [] else bs := by
  simp [State.ranThrough, State.opComplete, busBytes_okEvents, busBytes]

theorem dumpLog_ranThrough (dump : Bool) (bs : List Byte) (s : State) :
    dumpLog (s.ranThrough (bs.map (okEvent dump))).trace = dumpLog s.trace ++ if dump then bs else [] := by
  simp [State.ranThrough, State.opComplete, dumpLog_okEvents, dumpLog]

theorem State.record_ranThrough (e : Event) (es : List Event) (s : State) :
    (s.record e).ranThrough es = s.ranThrough (e :: es) := by
  simp only [State.ranThrough, State.record, List.append_assoc]
  rfl

theorem runList_ok (full rest : List Byte) (n : Nat) (s : State) (h : rest.length ≤ n) :
    runList full rest (List.replicate n .ok) s =
      .completed (s.ranThrough (rest.map (okEvent s.dump))) (List.replicate (n - rest.length) .ok) := by
  induction rest generalizing n s with
  | nil => cases n <;> simp [runList, State.ranThrough]
  | cons v rest ih =>
    obtain ⟨n, rfl⟩ : ∃ m, n = m + 1 := ⟨n - 1, by simp at h; omega⟩
    have event : runList full (v :: rest) (List.replicate (n + 1) .ok) s =
        runList full rest (List.replicate n .ok) (s.record (okEvent s.dump v)) := by
      cases hd : s.dump <;> simp [List.replicate_succ, runList, hd, okEvent]
    rw [event, ih n _ (by simpa using h)]
    simp [State.record_ranThrough]

theorem perform_of_emitsOn (i : Instr) (answers : List Answer) (s : State) (h : s.emitsOn i) :
    perform i answers s = runOp (s.listOf i) answers (s.acceptedBy i) := by
  obtain ⟨he, hf, hi⟩ := h
  have not_faulted : ¬ s.fault = true := by simp [hf]
  have initialised (hn : i.op ≠ opInit) : ¬ s.inited = false := by simp [hi.resolve_left hn]
  cases i with
  | init a => exact if_neg not_faulted
  | cmd b => exact (if_neg not_faulted).trans (if_neg (initialised nofun))
  | data b => exact (if_neg not_faulted).trans (if_neg (initialised nofun))
  | bl a => exact (if_neg not_faulted).trans (if_neg (initialised nofun))
  | dumpOn a | dumpOff a | recover a | reserved7 a => cases he

theorem perform_ok (i : Instr) (s : State) (n : Nat) (h : s.emitsOn i) (hn : (s.listOf i).length ≤ n) :
    perform i (List.replicate n .ok) s =
      .completed ((s.acceptedBy i).ranThrough ((s.listOf i).map (okEvent s.dump)))
        (List.replicate (n - (s.listOf i).length) .ok) := by
  rw [perform_of_emitsOn i _ s h]
  exact runList_ok _ _ n _ hn

/-- Settles O44: both modes emit the list of the request, which `dump` has no part in. -/
theorem dumpLogEqualsBusBytes : Obligations.DumpLogEqualsBusBytes := by
  intro i s n h hn
  have bus (dump : Bool) := busBytes_ranThrough dump (s.listOf i) (({ s with dump := dump } : State).acceptedBy i)
  have log (dump : Bool) := dumpLog_ranThrough dump (s.listOf i) (({ s with dump := dump } : State).acceptedBy i)
  exact ⟨_, _, _, perform_ok i { s with dump := false } n h hn, perform_ok i { s with dump := true } n h hn,
    s.listOf i, rfl, bus false, (log false).trans (List.append_nil _), (bus true).trans (List.append_nil _), log true, rfl⟩

end Sys2Proof.Machine
end

section
/-! The bytes the block can emit (R82, R83, R84), and how many of them an operation emits (R92). -/

namespace Sys2Proof.Machine

theorem frame_emittable (c : Cfg) (n : Nibble) (rs bl : Bool) : emittable c (frame c n rs bl) :=
  ⟨n, rs, bl, false, by simp⟩

theorem frame_enable_emittable (c : Cfg) (n : Nibble) (rs bl : Bool) : emittable c (frame c n rs bl ||| c.enBit) :=
  ⟨n, rs, bl, true, rfl⟩

/-- A control write is the frame of the nibble 0 with the register-select bit clear (R123). -/
theorem ctlByte_eq_frame (c : Cfg) (bl : Bool) : ctlByte c bl = frame c 0 false bl := by
  simp [ctlByte, frame]

/-- R84, R128: the byte at a pointer is a frame, with the enable bit in the middle phase of a strobe. -/
theorem cur_emittable (c : Cfg) (op : OpCode) (arg : Byte) (bl : Bool) (p : Ptr) : emittable c (cur c op arg bl p) := by
  by_cases ho : op = opBl
  · have control : cur c op arg bl p = ctlByte c bl := if_pos ho
    rw [control, ctlByte_eq_frame]
    exact frame_emittable c 0 false bl
  · rw [cur_eq_strobeByte c op arg bl p ho, strobeByte]
    split
    · exact frame_enable_emittable c _ _ bl
    · exact frame_emittable c _ _ bl

theorem State.curByte_emittable (s : State) : emittable s.cfg s.curByte := cur_emittable ..

theorem State.writes_emittable (s : State) (e : Event) (h : s.writes e) : e.emittable s.cfg := by
  obtain ⟨-, ⟨-, rfl | rfl⟩ | ⟨-, rfl | rfl⟩⟩ := h <;> exact s.curByte_emittable

/-- Settles O40: a reset edge adds no event; every other edge adds writes of the current byte and completions. -/
theorem traceHoldsOnlyFrames : Obligations.TraceHoldsOnlyFrames := by
  intro s t h hold hs e he
  obtain ⟨cfg, -, at_reset, no_reset⟩ := traceGrowsByTheSelectedWrite s t h hs
  rw [cfg]
  cases hr : s.nextIn.rst with
  | true =>
    rcases at_reset hr with kept | ⟨-, op, st, withdrawn⟩
    · exact hold e (kept ▸ he)
    · exact hold e (withdrawn ▸ List.mem_append_left _ he)
  | false =>
    obtain ⟨ws, ds, grown, -, -, completions, written⟩ := no_reset hr
    rw [grown, List.mem_append, List.mem_append] at he
    rcases he with (he | he) | he
    · exact hold e he
    · exact s.writes_emittable e (written e he)
    · obtain ⟨op, st, rfl⟩ := completions e he
      trivial

/-- R83: no field of an emittable byte meets the `RW` bit. -/
theorem emittable_and_rwBit (c : Cfg) (hf : CfgFacts c) (v : Byte) (h : emittable c v) : v &&& c.rwBit = 0 := by
  obtain ⟨n, rs, bl, en, rfl⟩ := h
  have frame_clear : frame c n rs bl &&& c.rwBit = 0 :=
    frame_and_clear c hf c.rwBit hf.rw_nib (by rw [BitVec.and_comm, hf.rw_bl]) hf.rs_rw n rs bl
  have enable_clear : c.enBit &&& c.rwBit = 0 := by rw [BitVec.and_comm, hf.rw_en]
  cases en <;> simp [BitVec.and_or_distrib_right, frame_clear, enable_clear]

/-- A byte shown on either port is the current byte (R192). -/
theorem outputs_byte (s : State) (v : Byte) (h : s.outputs.busByte = some v ∨ s.outputs.dumpByte = some v) :
    v = s.curByte := by
  rcases h with h | h <;> exact (Option.some.inj (Option.ite_none_right_eq_some.mp h).2).symm

/-- Settles O39: the byte on either port is the current byte, which is emittable. -/
theorem readWriteBitNeverSet : Obligations.ReadWriteBitNeverSet := by
  intro s v h shown
  rw [outputs_byte s v shown]
  exact emittable_and_rwBit s.cfg (cfgFacts s.cfg h.1) _ s.curByte_emittable

/-- Settles O35: the length of `initList` is known, and the other lists are what `emitList` says. -/
theorem emissionListLengths : Obligations.EmissionListLengths := by
  intro c arg bl
  refine ⟨?_, rfl, rfl, rfl, rfl, rfl, rfl, rfl⟩
  rw [emitList_length c opInit arg bl rfl]
  cases c.wakeForm <;> rfl

end Sys2Proof.Machine
end

section
/-! Requests and request words (R80, R81, R90). -/

namespace Sys2Proof.Machine

theorem decodeReq_op_arg (i : Instr) : decodeReq i.op i.arg = i := by cases i <;> rfl

/-- Every operation code is a row of the opcode map, and the request keeps both fields (R81, R90). -/
theorem decodeReq_fields (op : OpCode) (arg : Byte) : (decodeReq op arg).op = op ∧ (decodeReq op arg).arg = arg := by
  have rows : op = opInit ∨ op = opCmd ∨ op = opData ∨ op = opBl ∨ op = opDumpOn ∨ op = opDumpOff ∨ op = opRecover ∨
      op = opReserved7 := by revert op; decide
  rcases rows with rfl | rfl | rfl | rfl | rfl | rfl | rfl | rfl <;> exact ⟨rfl, rfl⟩

theorem decodeWord_encode (i : Instr) : decodeWord (encode i) = i := by
  obtain ⟨op, arg⟩ := Laws.wordFields i.op i.arg
  rw [decodeWord, encode, op, arg, decodeReq_op_arg]

/-- R80: a word is its two fields put together. -/
theorem wordOp_append_wordArg (w : Word) : wordOp w ++ wordArg w = w :=
  (BitVec.extractLsb'_append_extractLsb'_eq_extractLsb' (start₁ := 0) (len₁ := 8) rfl).trans BitVec.extractLsb'_eq_self

theorem encode_decodeWord (w : Word) : encode (decodeWord w) = w := by
  obtain ⟨op, arg⟩ := decodeReq_fields (wordOp w) (wordArg w)
  rw [encode, decodeWord, op, arg, wordOp_append_wordArg]

/-- The decoder of the opcode table takes the low sixteen bits, and a request word if they are one (log entry 12). -/
theorem decodeTableWord_eq_ite (w : Nat) : decodeTableWord 16 w =
    if w % 2 ^ 16 < 2 ^ 11 then some (decodeWord (BitVec.ofNat 11 (w % 2 ^ 16))) else none := by
  unfold decodeTableWord decodeNat
  split_ifs <;> rfl

theorem decodeTableWord_of_lt (w : Nat) (h : w < 2048) : decodeTableWord 16 w = some (decodeWord (BitVec.ofNat 11 w)) := by
  rw [decodeTableWord_eq_ite, Nat.mod_eq_of_lt (by omega)]
  exact if_pos h

theorem decodeTableWord_of_ge (w : Nat) (h : 2048 ≤ w) (h' : w < 65536) : decodeTableWord 16 w = none := by
  rw [decodeTableWord_eq_ite, Nat.mod_eq_of_lt (by omega)]
  exact if_neg (Nat.not_lt.mpr h)

/-- R80: the numbers in the two fields of the word of a number. -/
theorem wordOp_ofNat (w : Nat) : wordOp (BitVec.ofNat 11 w) = BitVec.ofNat 3 (w / 256) := by
  apply BitVec.eq_of_toNat_eq
  simp only [wordOp, BitVec.extractLsb'_toNat, BitVec.toNat_ofNat, Nat.shiftRight_eq_div_pow]
  omega

theorem wordArg_ofNat (w : Nat) : wordArg (BitVec.ofNat 11 w) = BitVec.ofNat 8 w := by
  apply BitVec.eq_of_toNat_eq
  simp only [wordArg, BitVec.extractLsb'_toNat, BitVec.toNat_ofNat, Nat.shiftRight_zero]
  omega

/-- Settles O46: `encode` and `decodeWord` are inverse to each other, and `decodeTableWord` is `decodeWord` below 2048. -/
theorem requestWordsAreTheRequests : Obligations.RequestWordsAreTheRequests := by
  refine ⟨fun i _ => ?_, fun w hw => ⟨_, decodeTableWord_of_lt w hw, ?_, ?_, ?_⟩, decodeTableWord_of_ge⟩
  · rw [decodeTableWord_of_lt _ (encode i).isLt, BitVec.ofNat_toNat, BitVec.setWidth_eq, decodeWord_encode]
  · rw [encode_decodeWord, BitVec.toNat_ofNat, Nat.mod_eq_of_lt hw]
  · exact (decodeReq_fields _ _).1.trans (wordOp_ofNat w)
  · exact (decodeReq_fields _ _).2.trans (wordArg_ofNat w)

/-- Settles O47: each row of the opcode map is one evaluation of the decoder. -/
theorem writtenOutWordsDecode : Obligations.WrittenOutWordsDecode :=
  ⟨rfl, rfl, rfl, rfl, rfl, rfl, rfl, rfl⟩

/-- In a quiet block, placing a word on the port is one more edge in front of the inputs (log entry 5). -/
theorem withFetchWord_of_idle (s : State) (nbits w : Nat) (h : s.Inv) (hq : s.seq = .idle) :
    s.withFetchWord nbits w = { s with inputs := In.request (BitVec.ofNat 11 (w % 2 ^ nbits)) :: s.inputs } := by
  obtain ⟨ptr, dly, -⟩ := (legal_quiet s (.inl hq)).mp h.2
  rw [State.withFetchWord, ← hq, ← ptr, ← dly]

/-- R80, R193: an idle block that is presented a request word runs the request it stands for. -/
theorem step_request (s : State) (w : Word) (h : s.Inv) (hq : s.seq = .idle) :
    step { s with inputs := In.request w :: s.inputs } = exec (decodeWord w) s := by
  rw [step_of_inv _ (inv_withInputs s _ h) rfl]
  change edge (In.request w) s = _
  simp only [edge, hq]
  rfl

/-- Settles O8: the decoder reads the low sixteen bits of the number, and they are what is placed on the port. -/
theorem fetchedWordIsRun : Obligations.FetchedWordIsRun := by
  intro s w i h hq hw
  rw [decodeTableWord_eq_ite, Option.ite_none_right_eq_some] at hw
  rw [withFetchWord_of_idle s 16 w h hq, step_request s _ h hq, Option.some.inj hw.2]

end Sys2Proof.Machine
end

section
/-! Rows and addresses of a host-side geometry (R100 to R104). -/

namespace Sys2Proof.Machine

/-- The clauses of R100 as propositions. -/
structure GeometryFacts (g : Geometry) : Prop where
  rows : g.rows = 1 ∨ g.rows = 2 ∨ g.rows = 4
  columns : 1 ≤ g.columns ∧ g.columns ≤ 40
  cells : 16 ≤ g.rows * g.columns ∧ g.rows * g.columns ≤ 80

theorem geometryFacts (g : Geometry) (h : g.wf = true) : GeometryFacts g := by
  simp only [Geometry.wf, Bool.and_eq_true, Bool.or_eq_true, beq_iff_eq, decide_eq_true_eq, or_assoc] at h
  obtain ⟨⟨rows, columns⟩, cells⟩ := h
  exact ⟨rows, columns, cells⟩

theorem rowAddressTable_length (g : Geometry) (hg : GeometryFacts g) : (rowAddressTable g).length = g.rows := by
  unfold rowAddressTable
  rcases hg.rows with h | h | h <;> rw [h] <;> rfl

/-- A row of the geometry has an entry in the table, from `0x80` on, with room for its columns below `0xE8`: four rows have
at most twenty columns. -/
theorem rowAddressTable_range (g : Geometry) (hg : GeometryFacts g) (base : Byte) (h : base ∈ rowAddressTable g) :
    0x80 ≤ base.toNat ∧ base.toNat + g.columns ≤ 0xE8 := by
  obtain ⟨-, columns⟩ := hg.columns
  obtain ⟨-, cells⟩ := hg.cells
  unfold rowAddressTable at h
  rcases hg.rows with rows | rows | rows <;> rw [rows] at cells h <;>
    simp only [List.mem_cons, List.not_mem_nil, or_false] at h
  · subst h; bv_omega
  · rcases h with rfl | rfl <;> bv_omega
  · rcases h with rfl | rfl | rfl | rfl <;> bv_omega

theorem rowBase_of_row (g : Geometry) (row : Nat) (h : g.wf = true) (h1 : 1 ≤ row) (h2 : row ≤ g.rows) :
    ∃ base, (rowAddressTable g)[row - 1]? = some base ∧ rowBase g row = .ok base := by
  have in_table : row - 1 < (rowAddressTable g).length := by
    rw [rowAddressTable_length g (geometryFacts g h)]; omega
  have entry := List.getElem?_eq_getElem in_table
  exact ⟨_, entry, by simp [rowBase, h, entry, Nat.ne_of_gt h1]⟩

theorem rowBase_of_no_row (g : Geometry) (row : Nat) (h : g.wf = true) (hr : ¬ (1 ≤ row ∧ row ≤ g.rows)) :
    rowBase g row = .error .bounds := by
  by_cases zero : row = 0
  · simp [rowBase, h, zero]
  · have no_entry : (rowAddressTable g)[row - 1]? = none := by
      rw [List.getElem?_eq_none_iff, rowAddressTable_length g (geometryFacts g h)]; omega
    simp [rowBase, h, zero, no_entry]

/-- R101: no overflow in the address of a cell. -/
theorem addressOf_of_cell (g : Geometry) (row column : Nat) (h : g.wf = true) (hr : 1 ≤ row ∧ row ≤ g.rows)
    (hc : 1 ≤ column ∧ column ≤ g.columns) :
    ∃ base a, (rowAddressTable g)[row - 1]? = some base ∧ addressOf g row column = .ok a ∧
      a.toNat = base.toNat + (column - 1) ∧ 0x80 ≤ a.toNat ∧ a.toNat ≤ 0xE7 := by
  obtain ⟨base, entry, found⟩ := rowBase_of_row g row h hr.1 hr.2
  obtain ⟨low, high⟩ := rowAddressTable_range g (geometryFacts g h) base (List.mem_of_getElem? entry)
  have sum : (base + BitVec.ofNat 8 (column - 1)).toNat = base.toNat + (column - 1) := by
    rw [BitVec.toNat_add, BitVec.toNat_ofNat]; omega
  exact ⟨base, _, entry, by simp only [addressOf, found, if_pos hc], sum, by omega, by omega⟩

/-- R101: outside the geometry, by the row or by the column. -/
theorem addressOf_of_no_cell (g : Geometry) (row column : Nat) (h : g.wf = true)
    (hn : ¬ (1 ≤ row ∧ row ≤ g.rows ∧ 1 ≤ column ∧ column ≤ g.columns)) : addressOf g row column = .error .bounds := by
  by_cases hr : 1 ≤ row ∧ row ≤ g.rows
  · obtain ⟨base, -, found⟩ := rowBase_of_row g row h hr.1 hr.2
    have no_column : ¬ (1 ≤ column ∧ column ≤ g.columns) := fun hc => hn ⟨hr.1, hr.2, hc⟩
    simp only [addressOf, found, if_neg no_column]
  · simp only [addressOf, rowBase_of_no_row g row h hr]

/-- Bit 7 of a byte from `0x80` on is set, so the OR of `GOTO` changes nothing (R102). -/
theorem or_0x80_of_le : ∀ a : Byte, 0x80 ≤ a.toNat → a.getLsbD 7 = true ∧ 0x80 ||| a = a := by decide

/-- Settles O48: the table has an entry for each row, and the entries leave room for the columns. -/
theorem rowAddressesAreInRange : Obligations.RowAddressesAreInRange := by
  intro g row column h
  refine ⟨rowAddressTable_length g (geometryFacts g h), ?_, fun hn => ?_⟩
  · rintro ⟨h1, h2, hc⟩
    obtain ⟨base, a, entry, address, sum, low, high⟩ := addressOf_of_cell g row column h ⟨h1, h2⟩ hc
    obtain ⟨bit7, or_eq⟩ := or_0x80_of_le a low
    exact ⟨base, a, entry, address, sum, high, bit7, by simp only [pseudoGoto, address], or_eq⟩
  · have address := addressOf_of_no_cell g row column h hn
    exact ⟨address, by simp only [pseudoGoto, address]⟩

/-- Settles O49: the requests after the CMD are the codes that fit the columns. -/
theorem placeRowExpansion : Obligations.PlaceRowExpansion := by
  intro g codes row h h1 h2
  obtain ⟨base, entry, found⟩ := rowBase_of_row g row h h1 h2
  refine ⟨base, (codes.take g.columns).map .data, entry, by simp only [pseudoPlaceRow, found], ?_, fun k c hk hc => ?_⟩
  · rw [List.length_map, List.length_take, Nat.min_comm]
  · rw [List.getElem?_map, List.getElem?_take_of_lt hk, hc, Option.map_some]

end Sys2Proof.Machine
end

section
/-! An expansion of requests at the operation level (R107). -/

namespace Sys2Proof.Machine

/-- Whatever `Run(L)` is answered, it takes nothing off the trace (R127, R236). -/
theorem runList_trace (full rest : List Byte) (answers left : List Answer) (s t : State)
    (h : runList full rest answers s = .completed t left) : s.trace <+: t.trace := by
  induction answers generalizing rest s with
  | nil =>
    cases rest with
    | nil => cases h; exact List.prefix_append ..
    | cons v rest => cases h
  | cons a answers ih =>
    cases rest with
    | nil => cases h; exact List.prefix_append ..
    | cons v rest =>
      cases hd : s.dump <;> cases a <;> simp only [runList, hd, if_true] at h
      · exact (List.prefix_append ..).trans (ih _ _ h)
      · cases h
        exact (List.prefix_append ..).trans (List.prefix_append ..)
      · exact (List.prefix_append ..).trans (ih _ _ h)
      · exact (List.prefix_append ..).trans (ih _ _ h)

/-- Everything a request can do: complete at once, using no answer, or emit a list (R140 to R180). -/
theorem perform_cases (i : Instr) (answers : List Answer) (s : State) :
    (∃ (u : State) (st : Status), perform i answers s = .completed (u.opComplete st) answers ∧ u.trace = s.trace) ∨
    (∃ (u : State) (list : List Byte), perform i answers s = runOp list answers u ∧ u.trace = s.trace) := by
  cases i with
  | init a =>
    by_cases hf : s.fault = true
    · exact .inl ⟨_, _, if_pos hf, rfl⟩
    · exact .inr ⟨_, _, if_neg hf, rfl⟩
  | cmd a | data a | bl a =>
    by_cases hf : s.fault = true
    · exact .inl ⟨_, _, if_pos hf, rfl⟩
    by_cases hi : s.inited = false
    · exact .inl ⟨_, _, (if_neg hf).trans (if_pos hi), rfl⟩
    · exact .inr ⟨_, _, (if_neg hf).trans (if_neg hi), rfl⟩
  | dumpOn a | dumpOff a =>
    by_cases hf : s.fault = true
    · exact .inl ⟨_, _, if_pos hf, rfl⟩
    · exact .inl ⟨_, _, if_neg hf, rfl⟩
  | recover a | reserved7 a => exact .inl ⟨_, _, rfl, rfl⟩

theorem perform_trace (i : Instr) (answers left : List Answer) (s t : State)
    (h : perform i answers s = .completed t left) : s.trace <+: t.trace := by
  obtain ⟨u, st, hu, trace⟩ | ⟨u, list, hu, trace⟩ := perform_cases i answers s <;> rw [hu] at h <;> rw [← trace]
  · cases h
    exact List.prefix_append ..
  · exact runList_trace list list answers left u t h

/-- After a request the expansion goes on if the status is `OK` and ends if it is not (R107). -/
theorem performUntilError_cons (i : Instr) (rest : List Instr) (answers left : List Answer) (s u : State)
    (h : perform i answers s = .completed u left) : performUntilError (i :: rest) answers s =
      if u.lastStatus = 0 then performUntilError rest left u else .completed u left := by
  rw [performUntilError, h]

/-- An expansion that ends has run its first request to completion. -/
theorem performUntilError_cons_inversion (i : Instr) (rest : List Instr) (answers left : List Answer) (s t : State)
    (h : performUntilError (i :: rest) answers s = .completed t left) :
    ∃ u l, perform i answers s = .completed u l ∧
      (u.lastStatus = 0 ∧ performUntilError rest l u = .completed t left ∨ u.lastStatus ≠ 0 ∧ u = t ∧ l = left) := by
  cases hp : perform i answers s with
  | hang u => rw [performUntilError, hp] at h; cases h
  | completed u l =>
    refine ⟨u, l, rfl, ?_⟩
    rw [performUntilError_cons i rest answers l s u hp] at h
    split_ifs at h with hu
    · exact .inl ⟨hu, h⟩
    · injection h with ht hl
      exact .inr ⟨hu, ht, hl⟩

theorem performUntilError_trace (pre : List Instr) (answers left : List Answer) (s t : State)
    (h : performUntilError pre answers s = .completed t left) : s.trace <+: t.trace := by
  induction pre generalizing answers s with
  | nil => cases h; exact List.prefix_rfl
  | cons i pre ih =>
    obtain ⟨u, l, hp, ⟨-, hr⟩ | ⟨-, rfl, -⟩⟩ := performUntilError_cons_inversion i pre answers left s t h
    · exact (perform_trace i answers l s u hp).trans (ih l u hr)
    · exact perform_trace i answers l s u hp

theorem performUntilError_append_of_ok (pre post : List Instr) (answers left : List Answer) (s t : State)
    (h : performUntilError pre answers s = .completed t left) (ht : t.lastStatus = 0) :
    performUntilError (pre ++ post) answers s = performUntilError post left t := by
  induction pre generalizing answers s with
  | nil => cases h; rfl
  | cons i pre ih =>
    obtain ⟨u, l, hp, ⟨hu, hr⟩ | ⟨hu, rfl, -⟩⟩ := performUntilError_cons_inversion i pre answers left s t h
    · rw [List.cons_append, performUntilError_cons i _ answers l s u hp, if_pos hu, ih l u hr]
    · exact absurd ht hu

/-- The status of a state in which nothing has been presented yet is no status of the expansion, hence `start`. -/
theorem performUntilError_append_of_error (pre post : List Instr) (answers left : List Answer) (s t : State)
    (start : pre = [] → s.lastStatus = 0) (h : performUntilError pre answers s = .completed t left)
    (ht : t.lastStatus ≠ 0) : performUntilError (pre ++ post) answers s = .completed t left := by
  induction pre generalizing answers s with
  | nil => cases h; exact absurd (start rfl) ht
  | cons i pre ih =>
    obtain ⟨u, l, hp, ⟨hu, hr⟩ | ⟨hu, rfl, rfl⟩⟩ := performUntilError_cons_inversion i pre answers left s t h
    · rw [List.cons_append, performUntilError_cons i _ answers l s u hp, if_pos hu, ih l u (fun _ => hu) hr]
    · rw [List.cons_append, performUntilError_cons i _ answers l s u hp, if_neg hu]

/-- Settles O50: by induction over the requests presented, one lemma for each clause. -/
theorem expansionStopsAtFirstError : Obligations.ExpansionStopsAtFirstError := fun pre post answers left s t hne h =>
  ⟨performUntilError_append_of_error pre post answers left s t (fun empty => absurd empty hne) h,
    performUntilError_append_of_ok pre post answers left s t h, performUntilError_trace pre answers left s t h⟩

end Sys2Proof.Machine
end

section
/-! Frames and the lists built from them (R120 to R124, R128, R130, R132, R154). -/

namespace Sys2Proof.Machine

/-- Settles O36: the element of each list at the index of a legal pointer is known. -/
theorem currentByteIsListElement : Obligations.CurrentByteIsListElement := emitList_getElem?_ptrIndex

/-! Each field of a frame, read through its mask. -/

section

variable (c : Cfg) (hf : CfgFacts c) (n : Nibble) (rs bl : Bool)

include hf

theorem frame_and_nibMask : frame c n rs bl &&& c.nibMask = n.setWidth 8 <<< c.nibShift := by
  have nib := nibble_in_mask c hf.shift n
  cases rs <;> cases bl <;> simp [frame, BitVec.and_or_distrib_right, nib, hf.rs_nib, hf.bl_nib]

theorem frame_and_blBit : frame c n rs bl &&& c.blBit = if bl then c.blBit else 0 := by
  have nib := nibble_and_clear c hf.shift n c.blBit hf.bl_nib
  cases rs <;> cases bl <;> simp [frame, BitVec.and_or_distrib_right, nib, hf.rs_bl]

theorem frame_and_rsBit : frame c n rs bl &&& c.rsBit = if rs then c.rsBit else 0 := by
  have nib := nibble_and_clear c hf.shift n c.rsBit hf.rs_nib
  have bl_rs : c.blBit &&& c.rsBit = 0 := by rw [BitVec.and_comm, hf.rs_bl]
  cases rs <;> cases bl <;> simp [frame, BitVec.and_or_distrib_right, nib, bl_rs]

theorem frame_and_enBit : frame c n rs bl &&& c.enBit = 0 :=
  frame_and_clear c hf c.enBit hf.en_nib (by rw [BitVec.and_comm, hf.en_bl]) hf.rs_en n rs bl

end

/-- Shifting the nibble field down gives the nibble back, since it fits above either shift (R61, R130). -/
theorem nibble_shift_back (n : Nibble) (k : Nat) (hk : k = 0 ∨ k = 4) :
    (n.setWidth 8 <<< k) >>> k = n.setWidth 8 := by
  obtain rfl | rfl := hk <;> revert n <;> decide

/-- R60: the two nibbles of a byte are the byte. -/
theorem hiNibble_append_loNibble (b : Byte) : hiNibble b ++ loNibble b = b := by
  revert b; decide

/-- Settles O41: one mask for each field, and the masks of R9 are not 0. -/
theorem frameFieldsReadBack : Obligations.FrameFieldsReadBack := by
  intro c n rs bl b hc
  have hf := cfgFacts c hc
  rw [frame_and_nibMask c hf, frame_and_blBit c hf, frame_and_rsBit c hf]
  exact ⟨nibble_shift_back n c.nibShift hf.shift, ite_ne_right_iff.trans (and_iff_left (oneHot_ne_zero _ hf.bl)),
    ite_ne_right_iff.trans (and_iff_left (oneHot_ne_zero _ hf.rs)), frame_and_enBit c hf n rs bl,
    emittable_and_rwBit c hf _ (frame_emittable c n rs bl), frame_without_enable c hf n rs bl, hiNibble_append_loNibble b⟩

/-! The enable bit in a list of strobes (R132). -/

/-- `l` is whole groups of three bytes, with the enable bit in the middle byte of each. -/
structure EnableInMiddle (c : Cfg) (l : List Byte) : Prop where
  length : l.length % 3 = 0
  enable : ∀ k v, l[k]? = some v → (v &&& c.enBit ≠ 0 ↔ k % 3 = 1)

theorem EnableInMiddle.nil (c : Cfg) : EnableInMiddle c [] := ⟨rfl, nofun⟩

theorem EnableInMiddle.append {c : Cfg} {l l' : List Byte} (h : EnableInMiddle c l) (h' : EnableInMiddle c l') :
    EnableInMiddle c (l ++ l') := by
  have aligned := h.length
  refine ⟨by rw [List.length_append, Nat.add_mod, h.length, h'.length], fun k v hv => ?_⟩
  rcases Nat.lt_or_ge k l.length with first | second
  · exact h.enable k v (by rwa [List.getElem?_append_left first] at hv)
  · rw [h'.enable (k - l.length) v (by rwa [List.getElem?_append_right second] at hv)]
    omega

section

variable (c : Cfg) (hf : CfgFacts c)

include hf

theorem strobe_enableInMiddle (n : Nibble) (rs bl : Bool) : EnableInMiddle c (strobe c n rs bl) := by
  have clear := frame_and_enBit c hf n rs bl
  have enabled : (frame c n rs bl ||| c.enBit) &&& c.enBit ≠ 0 := by
    simpa [BitVec.and_or_distrib_right, clear] using oneHot_ne_zero _ hf.en
  refine ⟨by rw [strobe_length], fun k v hv => ?_⟩
  rw [strobe, frame_without_enable c hf] at hv
  match k with
  | 0 => obtain rfl := Option.some.inj hv; simp [clear]
  | 1 => obtain rfl := Option.some.inj hv; simpa using enabled
  | 2 => obtain rfl := Option.some.inj hv; simp [clear]
  | _ + 3 => cases hv

theorem byteSeq_enableInMiddle (b : Byte) (rs bl : Bool) : EnableInMiddle c (byteSeq c b rs bl) :=
  (strobe_enableInMiddle c hf _ rs bl).append (strobe_enableInMiddle c hf _ rs bl)

theorem initItem_enableInMiddle (step : BitVec 3) (bl : Bool) : EnableInMiddle c (initItem c step bl) := by
  unfold initItem
  split
  · exact strobe_enableInMiddle c hf _ false bl
  · exact byteSeq_enableInMiddle c hf _ false bl

theorem initList_enableInMiddle (bl : Bool) : EnableInMiddle c (initList c bl) := by
  rw [initList_eq_flatten]
  induction initSteps with
  | nil => exact .nil c
  | cons step steps ih => exact (initItem_enableInMiddle c hf step bl).append ih

theorem emitList_enableInMiddle (op : OpCode) (arg : Byte) (bl : Bool) (h : op ≠ opBl) :
    EnableInMiddle c (emitList c op arg bl) := by
  unfold emitList
  split_ifs
  · exact initList_enableInMiddle c hf bl
  · exact byteSeq_enableInMiddle c hf arg false bl
  · exact byteSeq_enableInMiddle c hf arg true bl
  · exact .nil c

end

/-- Settles O38: a list is strobes, or it is the one control write, which is a frame. -/
theorem enableOnMiddleWritesOnly : Obligations.EnableOnMiddleWritesOnly := by
  intro c op arg bl k v hc hv
  have hf := cfgFacts c hc
  refine ⟨fun not_bl => (emitList_enableInMiddle c hf op arg bl not_bl).enable k v hv, ?_⟩
  rintro rfl
  have control : v = ctlByte c bl := List.mem_singleton.mp (List.mem_of_getElem? hv)
  rw [control, ctlByte_eq_frame]
  exact frame_and_enBit c hf 0 false bl

/-- The frame of `CfgRef`: nibble, backlight and register-select bits stand side by side (R120). -/
theorem frame_cfgRef_toNat (n : Nibble) (rs bl : Bool) :
    (frame cfgRef n rs bl).toNat = 16 * n.toNat + 8 * bl.toNat + rs.toNat := by
  cases rs <;> cases bl <;> revert n <;> decide

/-- The enable bit of `CfgRef` is 4, and no frame has it (R121). -/
theorem strobe_cfgRef (n : Nibble) (rs bl : Bool) :
    strobe cfgRef n rs bl = [frame cfgRef n rs bl, frame cfgRef n rs bl + 4, frame cfgRef n rs bl] := by
  have hf := cfgFacts cfgRef cfgRef_wf
  rw [strobe, frame_without_enable cfgRef hf, ← BitVec.add_eq_or_of_and_eq_zero _ _ (frame_and_enBit cfgRef hf n rs bl)]
  rfl

/-- Settles O42: the frame and the strobe for all arguments; the example bytes are computed. -/
theorem referenceFrameBytes : Obligations.ReferenceFrameBytes :=
  ⟨fun n rs bl => ⟨frame_cfgRef_toNat n rs bl, strobe_cfgRef n rs bl⟩, by decide, rfl, rfl⟩

end Sys2Proof.Machine
end

section
/-! The settle delay, and a physical write that is answered `ok` (R52, R126, R196, R199). -/

namespace Sys2Proof.Machine

theorem State.noReset_succ {s : State} {k : Nat} (hr : s.noReset (k + 1)) :
    s.nextIn.rst = false ∧ s.popIn.noReset k := by
  cases hi : s.inputs with
  | nil => simp [State.noReset, State.nextIn, hi]
  | cons e es => simpa [State.noReset, State.nextIn, hi] using hr

theorem step_settle (s : State) (h : s.Inv) (hq : s.seq = .settle) (hr : s.nextIn.rst = false) :
    step s = .next s.popIn.settleEdge := by
  rw [step_of_inv s h hr]
  simp [edge, hq]

/-- R213 asks of the counter in `SETTLE` that it is neither 0 nor above `SETTLE_TICKS`. -/
theorem settle_withDly_inv (s : State) (h : s.Inv) (hq : s.seq = .settle) (d : Nat) (hd : 1 ≤ d ∧ d ≤ s.dly)
    (l : List In) : ({ s with dly := d, inputs := l } : State).Inv := by
  obtain ⟨-, bound, others⟩ := (legal_settle s hq).mp h.2
  exact ⟨h.1, (legal_settle { s with dly := d, inputs := l } hq).mpr ⟨hd.1, hd.2.trans bound, others⟩⟩

/-- R199: the delay takes as many edges as the counter holds, and the last one advances. -/
theorem run_settle (n : Nat) (s : State) (h : s.Inv) (hq : s.seq = .settle) (hn : s.dly = n) (hr : s.noReset n) :
    run n s = .next ({ s with dly := 0, inputs := s.inputs.drop n } : State).advance := by
  induction n generalizing s with
  | zero =>
    obtain ⟨positive, -⟩ := (legal_settle s hq).mp h.2
    omega
  | succ n ih =>
    obtain ⟨next_no_reset, later_no_reset⟩ := State.noReset_succ hr
    rw [run_succ n s _ (step_settle s h hq next_no_reset)]
    obtain ⟨last, advanced⟩ | ⟨not_last, counted⟩ := settleEdge_cases s.popIn
    · obtain rfl : n = 0 := by simpa [hn] using last
      rw [advanced]
      simp [State.popIn]
    · replace not_last : s.dly ≠ 1 := not_last
      rw [counted, ih { s.popIn with dly := s.popIn.dly - 1 }
        (settle_withDly_inv s h hq (s.dly - 1) (by omega) s.inputs.tail) hq (by simp [hn]) later_no_reset]
      simp [State.popIn]

/-- Where the sequencer stands is not read by `advance()`, which sets it (R200). -/
theorem advance_withSeq (s : State) (q : Seq) : ({ s with seq := q } : State).advance = s.advance := by
  unfold State.advance
  cases nextPtr s.cfg s.opQ s.ptr <;> rfl

/-- `s` after the physical writes of `bs`, with `rest` the coming edges; the sequencer is not yet placed. -/
def State.wrote (bs : List Byte) (rest : List In) (s : State) : State :=
  { s with inputs := rest, trace := s.trace ++ bs.map .busWrite }

theorem State.wrote_concat (bs : List Byte) (v : Byte) (l rest : List In) (s : State) :
    (s.wrote bs l).wrote [v] rest = s.wrote (bs ++ [v]) rest := by
  simp [State.wrote]

/-- Writes move a block in `EMIT` to no state outside the invariant, at whatever legal pointer it then is. -/
theorem wrote_present_inv (s : State) (h : s.Inv) (hq : s.seq = .emit) (p : Ptr) (hp : legalPtr s.cfg s.opQ p = true)
    (bs : List Byte) (rest : List In) : ((s.wrote bs rest).present p).Inv := by
  obtain ⟨dly, op_emits, not_faulted, -, others⟩ := (legal_emit s hq).mp h.2
  exact ⟨h.1, (legal_emit ((s.wrote bs rest).present p) rfl).mpr ⟨dly, op_emits, not_faulted, hp, others⟩⟩

/-- R126, R196: the write answered `ok` is made, and the sequencer advances after the settle delay, of no edge if
`SETTLE_TICKS = 0`. -/
theorem run_busAnswer_ok (s : State) (rest : List In) (h : s.Inv) (hq : s.seq = .emit) (hd : s.dump = false)
    (hi : s.inputs = In.bus .ok :: (List.replicate s.cfg.settleTicks In.quiet ++ rest)) :
    run (s.cfg.settleTicks + 1) s = .next (s.wrote [s.curByte] rest).advance := by
  obtain ⟨dly, op_emits, not_faulted, legal, others⟩ := (legal_emit s hq).mp h.2
  have hn := nextIn_cons s _ _ hi
  have answered : step s = .next (s.popIn.busWrite (some .ok)) := by
    rw [step_of_inv s h (by simp [hn]), hn]
    simp [edge, hq, State.emitEdge, hd]
  rw [run_succ _ s _ answered]
  obtain ⟨⟨⟩, -⟩ | ⟨⟨⟩, -⟩ | ⟨-, no_ticks, written⟩ | ⟨-, ticks, written⟩ := busWrite_cases (some .ok) s.popIn
  · replace no_ticks : s.cfg.settleTicks = 0 := no_ticks
    rw [written, no_ticks]
    simp [popIn_cons s _ _ hi, no_ticks, State.wrote, State.record, State.curByte]
  · replace ticks : 0 < s.cfg.settleTicks := ticks
    have no_reset : (s.popIn.record (.busWrite s.popIn.curByte)).startSettle.noReset s.cfg.settleTicks := by
      simp +contextual [State.noReset, hi]
    have inv : (s.popIn.record (.busWrite s.popIn.curByte)).startSettle.Inv :=
      ⟨h.1, (legal_settle _ rfl).mpr ⟨ticks, le_rfl, hd, op_emits, not_faulted, legal, others⟩⟩
    rw [written, run_settle s.cfg.settleTicks _ inv rfl rfl no_reset, ← advance_withSeq _ .emit]
    simp [popIn_cons s _ _ hi, State.wrote, State.record, State.startSettle, State.curByte, hq, dly]

/-- After any wait as well, the edges in all being those `physicalEdges` lists for one write. -/
theorem run_busWrite_ok (w : Nat) (s : State) (rest : List In) (h : s.Inv) (hq : s.seq = .emit) (hd : s.dump = false)
    (hi : s.inputs = physicalEdges s.cfg.settleTicks [w] ++ rest) :
    run (physicalEdges s.cfg.settleTicks [w]).length s = .next (s.wrote [s.curByte] rest).advance := by
  have edges : (physicalEdges s.cfg.settleTicks [w]).length = w + (s.cfg.settleTicks + 1) := by
    simp [physicalEdges]
  have waited := run_quiet w s (In.bus .ok :: (List.replicate s.cfg.settleTicks In.quiet ++ rest)) h hq
    (by simpa [physicalEdges] using hi)
  rw [edges, run_add w _ s _ waited]
  exact run_busAnswer_ok { s with inputs := _ } rest h hq hd rfl

end Sys2Proof.Machine
end

section
/-! The whole list of an operation on the physical bus (R127, R129, R196, R290). -/

namespace Sys2Proof.Machine

theorem physicalEdges_append (ticks : Nat) (ws ws' : List Nat) :
    physicalEdges ticks (ws ++ ws') = physicalEdges ticks ws ++ physicalEdges ticks ws' := by
  induction ws with
  | nil => rfl
  | cons w ws ih => simp [physicalEdges, ih]

/-- R290: each write takes its waiting edges, the edge of its answer and its settle delay. -/
theorem physicalEdges_length (ticks : Nat) (ws : List Nat) :
    (physicalEdges ticks ws).length = (ws.map (· + 1)).sum + ws.length * ticks := by
  induction ws with
  | nil => simp [physicalEdges]
  | cons w ws ih => simp [physicalEdges, ih, Nat.add_mul]; omega

/-- The list of the operation that is running (R124). -/
def State.runningList (s : State) : List Byte := emitList s.cfg s.opQ s.argQ s.bl

section

/-! A block at the first emission of an operation, in physical mode: just accepted, or restarted after a DumpSinkError. -/

variable (s : State) (h : s.Inv) (hq : s.seq = .emit) (start : s.ptr = startPtr s.cfg s.opQ) (hd : s.dump = false)

include h hq hd

/-- At the pointer whose index is the number of the writes so far, one more makes the write of that index. -/
theorem run_busWrites_concat (ws : List Nat) (w : Nat) (p : Ptr) (rest : List In) (legal : legalPtr s.cfg s.opQ p = true)
    (index : ptrIndex s.cfg s.opQ p = ws.length)
    (before : run (physicalEdges s.cfg.settleTicks ws).length s =
      .next ((s.wrote (s.runningList.take ws.length) (physicalEdges s.cfg.settleTicks [w] ++ rest)).present p)) :
    run (physicalEdges s.cfg.settleTicks (ws ++ [w])).length s =
      .next ((s.wrote (s.runningList.take (ws.length + 1)) rest).present p).advance := by
  have byte : s.runningList[ws.length]? = some (cur s.cfg s.opQ s.argQ s.bl p) :=
    index ▸ emitList_getElem?_ptrIndex s.cfg s.opQ s.argQ s.bl p h.1 legal
  rw [physicalEdges_append, List.length_append, run_add _ _ _ _ before, List.take_add_one, byte, Option.toList_some,
    ← State.wrote_concat _ _ (physicalEdges s.cfg.settleTicks [w] ++ rest)]
  exact run_busWrite_ok w _ rest (wrote_present_inv s h hq p legal _ _) rfl hd rfl

include start

/-- R127, R129: fewer writes than the list is long lead to the pointer of their number. -/
theorem run_busWrites (ws : List Nat) (rest : List In) (hl : ws.length < s.runningList.length)
    (hi : s.inputs = physicalEdges s.cfg.settleTicks ws ++ rest) :
    ∃ p, legalPtr s.cfg s.opQ p = true ∧ ptrIndex s.cfg s.opQ p = ws.length ∧
      run (physicalEdges s.cfg.settleTicks ws).length s =
        .next ((s.wrote (s.runningList.take ws.length) rest).present p) := by
  obtain ⟨-, op_emits, -⟩ := (legal_emit s hq).mp h.2
  obtain ⟨start_legal, start_index, walk⟩ := pointerWalkFollowsList s.cfg s.opQ s.argQ s.bl op_emits
  induction ws using List.reverseRecOn generalizing rest with
  | nil =>
    have none_written : (s.wrote [] rest).present (startPtr s.cfg s.opQ) = s := by
      simp [State.wrote, State.present, ← hq, ← start, show rest = s.inputs from hi.symm]
    exact ⟨_, start_legal, start_index, congrArg Host.Outcome.next none_written.symm⟩
  | append_singleton ws w ih =>
    rw [List.length_append, List.length_singleton] at hl ⊢
    obtain ⟨p, legal, index, before⟩ :=
      ih (physicalEdges s.cfg.settleTicks [w] ++ rest) (by omega) (by simp [hi, physicalEdges_append])
    obtain ⟨to_next, at_end⟩ := walk p legal
    obtain ⟨last, -⟩ | ⟨q, next, advanced⟩ :=
      advance_cases ((s.wrote (s.runningList.take (ws.length + 1)) rest).present p)
    · exact absurd (at_end.mp last) (by rw [index]; exact hl.ne)
    · obtain ⟨legal', index'⟩ := to_next q next
      exact ⟨q, legal', by rw [index', index],
        (run_busWrites_concat s h hq hd ws w p rest legal index before).trans (congrArg _ advanced)⟩

/-- R134: the last write, at which the walk ends, ends the operation. -/
theorem run_busList (ws : List Nat) (rest : List In) (hl : ws.length = s.runningList.length)
    (hi : s.inputs = physicalEdges s.cfg.settleTicks ws ++ rest) :
    run (physicalEdges s.cfg.settleTicks ws).length s = .next (s.wrote s.runningList rest).finish := by
  obtain ⟨-, op_emits, -⟩ := (legal_emit s hq).mp h.2
  obtain ⟨start_legal, start_index, walk⟩ := pointerWalkFollowsList s.cfg s.opQ s.argQ s.bl op_emits
  obtain rfl | ⟨ws, w, rfl⟩ := ws.eq_nil_or_concat'
  · have first := emitList_getElem?_ptrIndex s.cfg s.opQ s.argQ s.bl _ h.1 start_legal
    exact absurd hl (List.getElem?_eq_some_iff.mp (start_index ▸ first)).1.ne
  rw [List.length_append, List.length_singleton] at hl
  obtain ⟨p, legal, index, before⟩ := run_busWrites s h hq start hd ws (physicalEdges s.cfg.settleTicks [w] ++ rest)
    (by omega) (by simp [hi, physicalEdges_append])
  obtain ⟨-, at_end⟩ := walk p legal
  rw [run_busWrites_concat s h hq hd ws w p rest legal index before, hl, List.take_length]
  obtain ⟨-, ended⟩ | ⟨q, next, -⟩ := advance_cases ((s.wrote s.runningList rest).present p)
  · exact congrArg _ ended
  · exact absurd ((at_end.mpr (by rw [index]; exact hl)).symm.trans next) nofun

end

/-- Settles O20: acceptance, the writes of the list with their settle delays, and the edge in `FIN`. -/
theorem physicalOperationCompletes : Obligations.PhysicalOperationCompletes := by
  intro i s ws rest h hq he hd hl hi
  obtain ⟨ptr, dly, cause, -⟩ := (legal_quiet s (.inl hq)).mp h.2
  obtain ⟨start_legal, -⟩ := pointerWalkFollowsList s.cfg i.op i.arg (s.blAfter i) he.1
  have accepted_inv : (s.acceptedBy i).startEmission.Inv :=
    acceptedBy_present_inv i s h hq he _ start_legal s.inputs s.trace
  have listed : run (physicalEdges s.cfg.settleTicks ws).length (s.acceptedBy i).startEmission =
      .next ((s.acceptedBy i).startEmission.wrote (s.listOf i) (In.quiet :: rest)).finish :=
    run_busList (s.acceptedBy i).startEmission accepted_inv rfl rfl hd ws (In.quiet :: rest) hl hi
  have inv : ((s.acceptedBy i).startEmission.wrote (s.listOf i) (In.quiet :: rest)).finish.Inv :=
    ⟨h.1, legal_complete .ok _ cause⟩
  refine ⟨_, exec_of_emitsOn i s hq he, ?_⟩
  rw [← physicalEdges_length, run_add _ 1 _ _ listed, run_succ 0 _ _ (step_fin_quiet _ rest inv rfl rfl)]
  have inited_at_end : ¬ i.op = opInit ∧ s.inited = true ∨ i.op = opInit := by
    obtain ⟨-, -, init_or_inited⟩ := he
    tauto
  simpa [State.endOf, State.finish, State.complete, State.wrote, State.startEmission, State.present, State.acceptedBy,
    State.latch, ptr, dly] using inited_at_end

end Sys2Proof.Machine
end

section
/-! The bytes of INIT with the backlight off are those with it on, without the backlight bit (R120, R121, R141, R142). -/

namespace Sys2Proof.Machine

section

variable (c : Cfg) (hf : CfgFacts c)

include hf

theorem frame_backlight_off (n : Nibble) (rs : Bool) : frame c n rs false = frame c n rs true &&& ~~~c.blBit := by
  have off : frame c n rs false &&& ~~~c.blBit = frame c n rs false :=
    and_not_of_and_zero _ _ (frame_and_blBit c hf n rs false)
  have on : frame c n rs true = frame c n rs false ||| c.blBit := by
    cases rs <;> simp [frame, BitVec.or_assoc, BitVec.or_comm c.rsBit]
  simp [on, BitVec.and_or_distrib_right, off]

/-- Clearing the backlight bit leaves the enable bit alone (R9). -/
theorem strobe_backlight_off (n : Nibble) (rs : Bool) :
    strobe c n rs false = (strobe c n rs true).map (· &&& ~~~c.blBit) := by
  have enable : c.enBit &&& ~~~c.blBit = c.enBit := and_not_of_and_zero _ _ hf.en_bl
  simp only [strobe, frame_without_enable c hf, List.map_cons, List.map_nil, BitVec.and_or_distrib_right, enable,
    ← frame_backlight_off c hf]

theorem initItem_backlight_off (step : BitVec 3) :
    initItem c step false = (initItem c step true).map (· &&& ~~~c.blBit) := by
  unfold initItem
  split
  · exact strobe_backlight_off c hf _ false
  · simp [byteSeq, strobe_backlight_off c hf]

theorem initList_backlight_off : initList c false = (initList c true).map (· &&& ~~~c.blBit) := by
  simp [initList_eq_flatten, List.map_flatten, Function.comp_def, initItem_backlight_off c hf]

end

/-- Settles O43: the 36 bytes are computed, and the backlight bit of `CfgRef` is bit 3. -/
theorem referenceInitBytes : Obligations.ReferenceInitBytes :=
  ⟨rfl, initList_backlight_off cfgRef (cfgFacts cfgRef cfgRef_wf)⟩

end Sys2Proof.Machine
end

section
/-! The system operations: a request that completes at acceptance leaves the block in `FIN` for one cycle (R170, R173, R176,
R180, R201). -/

namespace Sys2Proof.Machine

theorem accept_of_check_some (op : OpCode) (arg : Byte) (check : State → Option Status) (effect : State → State)
    (s : State) (st : Status) (hq : s.seq = .idle) (hc : check s = some st) :
    s.accept op arg check effect = (s.latch op arg).complete st := by
  simp [State.accept, hq, hc]

/-- R201, whatever is on the other ports. -/
theorem step_fin (s : State) (h : s.Inv) (hq : s.seq = .fin) (hr : s.nextIn.rst = false) :
    step s = .next s.popIn.finEdge := by
  rw [step_of_inv s h hr]
  simp [edge, hq]

/-- In a quiet block `complete(st)` has no pointer and no counter to clear (R25, R26, R204). -/
theorem complete_of_quiet (st : Status) (s : State) (ptr : s.ptr = Ptr.zero) (dly : s.dly = 0) :
    s.complete st = { s with lastStatus := st.code, seq := .fin, trace := s.trace ++ [.done s.opQ st] } := by
  rw [State.complete, ← ptr, ← dly]

/-- Under its word the request `i` takes `s` to `t`, where `done` is asserted and no port is valid, and which is left for
`IDLE` one edge later. -/
def CompletesAtOnce (i : Instr) (s t : State) : Prop :=
  decodeWord (encode i) = i ∧ exec i s = .next t ∧ t.outputs.done = true ∧ t.outputs.busValid = false ∧
  t.outputs.dumpValid = false ∧ run 1 t = .next { t with seq := .idle, inputs := s.inputs.tail }

section

variable (i : Instr) (s : State) (h : s.Inv) (hr : s.nextIn.rst = false)

include h hr

theorem completesAtOnce_of_fin (t : State) (he : exec i s = .next t) (hq : t.seq = .fin) (hl : t.legal = true) :
    CompletesAtOnce i s t := by
  obtain ⟨cfg, inputs⟩ := exec_frame i s t he
  have inv : t.Inv := ⟨by rw [cfg]; exact h.1, hl⟩
  have no_reset : t.nextIn.rst = false := by rw [State.nextIn, inputs]; exact hr
  have left : step t = .next { t with seq := .idle, inputs := s.inputs.tail } := by
    rw [step_fin t inv hq no_reset, State.finEdge, State.popIn, inputs]
  refine ⟨decodeWord_encode i, he, ?_, ?_, ?_, run_succ 0 _ _ left⟩ <;>
    simp [State.outputs, State.busValid, State.dumpValid, hq]

/-- `u` is the block with the latches and the request's own registers written. -/
theorem completesAtOnce_of_complete (hq : s.seq = .idle) (u : State) (st : Status)
    (he : exec i s = .next (u.complete st)) (kept : u.ptr = s.ptr ∧ u.dly = s.dly)
    (cause : (u.fault = true → u.cause = 1) ∧ (u.fault = false → u.cause = 0)) :
    CompletesAtOnce i s { u with lastStatus := st.code, seq := .fin, trace := u.trace ++ [.done u.opQ st] } := by
  obtain ⟨ptr, dly, -⟩ := (legal_quiet s (.inl hq)).mp h.2
  have legal := legal_complete st u cause
  rw [complete_of_quiet st u (kept.1.trans ptr) (kept.2.trans dly)] at he legal
  exact completesAtOnce_of_fin i s h hr _ he rfl legal

end

/-- Settles O12: each request is accepted with the latches written, and is refused or has its own registers written besides. -/
theorem systemRequestsComplete : Obligations.SystemRequestsComplete := by
  intro s a h hq hr
  have cause := legal_cause s h.2
  have faulted (hf : s.fault = true) : s.faultedCheck = some .eFaulted := by simp [State.faultedCheck, hf]
  have passes (hf : s.fault = false) : s.faultedCheck = none := by simp [State.faultedCheck, hf]
  refine ⟨fun hf => ?dumpOn, fun hf => ?dumpOnFaulted, fun hf => ?dumpOff, fun hf => ?dumpOffFaulted, ?recover, ?reserved⟩
  case dumpOn =>
    exact completesAtOnce_of_complete (.dumpOn a) s h hr hq { s.latch opDumpOn a with dump := true, dumpWarn := false } .ok
      (congrArg _ (accept_of_check_none _ _ _ _ s hq (passes hf))) ⟨rfl, rfl⟩ cause
  case dumpOnFaulted =>
    exact completesAtOnce_of_complete (.dumpOn a) s h hr hq (s.latch opDumpOn a) .eFaulted
      (congrArg _ (accept_of_check_some _ _ _ _ s _ hq (faulted hf))) ⟨rfl, rfl⟩ cause
  case dumpOff =>
    exact completesAtOnce_of_complete (.dumpOff a) s h hr hq { s.latch opDumpOff a with dump := false } .ok
      (congrArg _ (accept_of_check_none _ _ _ _ s hq (passes hf))) ⟨rfl, rfl⟩ cause
  case dumpOffFaulted =>
    exact completesAtOnce_of_complete (.dumpOff a) s h hr hq (s.latch opDumpOff a) .eFaulted
      (congrArg _ (accept_of_check_some _ _ _ _ s _ hq (faulted hf))) ⟨rfl, rfl⟩ cause
  case recover =>
    exact completesAtOnce_of_complete (.recover a) s h hr hq (s.latch opRecover a).clearFault .ok
      (congrArg _ (accept_of_check_none _ _ _ _ s hq rfl)) ⟨rfl, rfl⟩ ⟨nofun, fun _ => rfl⟩
  case reserved =>
    exact completesAtOnce_of_complete (.reserved7 a) s h hr hq (s.latch opReserved7 a) .eIllegal
      (congrArg _ (accept_of_check_some _ _ _ _ s _ hq rfl)) ⟨rfl, rfl⟩ cause

end Sys2Proof.Machine
end

section
/-! What one edge without reset does in each state of the sequencer (R193, R196, R197), and what an edge does not read
(R244, U14). -/

namespace Sys2Proof.Machine

/-- Two edges that reset alike and move the popped state alike are one step. -/
theorem step_congr_edge (s : State) (e e' : In) (rest : List In) (hr : e.rst = e'.rst)
    (he : edge e { s with inputs := rest } = edge e' { s with inputs := rest }) :
    step { s with inputs := e :: rest } = step { s with inputs := e' :: rest } := by
  simp only [step, State.nextIn, State.popIn, List.headD_cons, List.tail_cons, hr, he]
  rfl

/-- Settles O27: in each state of the sequencer `edge` reads the inputs the clause names. -/
theorem unselectedInputsHaveNoEffect : Obligations.UnselectedInputsHaveNoEffect := by
  intro s e e' rest hr same
  apply step_congr_edge s e e' rest hr
  rcases same with ⟨hq, valid, request⟩ | ⟨hq, hd, done, fail⟩ | ⟨hq, hd, done, fail⟩ | hq | hq
  · cases hv : e.reqValid with
    | false => simp [edge, hq, ← valid, hv]
    | true => simp [edge, hq, ← valid, hv, request hv]
  · simp [edge, hq, State.emitEdge, hd, In.busAnswer, done, fail]
  · simp [edge, hq, State.emitEdge, hd, In.dumpAnswer, done, fail]
  · simp [edge, hq]
  · simp [edge, hq]

/-- The edges beyond the listed ones are quiet, so listing one of them changes nothing. -/
theorem step_listing_nextIn (s : State) : step { s with inputs := s.nextIn :: s.inputs.tail } = step s := by
  obtain ⟨_, _, _, _, _, _, _, _, _, _, _, _, _, inputs, _⟩ := s
  cases inputs <;> rfl

section

variable (s : State) (h : s.Inv) (hr : s.nextIn.rst = false)

include h hr

theorem step_idle (hq : s.seq = .idle) (hv : s.nextIn.reqValid = false) : step s = .next s.popIn := by
  rw [step_of_inv s h hr]
  simp [edge, hq, hv]

theorem step_accept (hq : s.seq = .idle) (i : Instr) (hp : s.nextIn.presents i) : step s = exec i s.popIn := by
  obtain ⟨valid, request⟩ := hp
  rw [step_of_inv s h hr]
  simp [edge, hq, valid, request]

theorem step_busWrite (hq : s.seq = .emit) (hd : s.dump = false) :
    step s = .next (s.popIn.busWrite s.nextIn.busAnswer) := by
  rw [step_of_inv s h hr]
  simp [edge, hq, State.emitEdge, hd]

theorem step_dumpWrite (hq : s.seq = .emit) (hd : s.dump = true) :
    step s = .next (s.popIn.dumpWrite s.nextIn.dumpAnswer) := by
  rw [step_of_inv s h hr]
  simp [edge, hq, State.emitEdge, hd]

end

/-- Settles O7: idle, `edge` runs what is on the port or nothing; busy, the port is among the inputs it does not read. -/
theorem requestIsRunWhenIdle : Obligations.RequestIsRunWhenIdle := by
  intro s h hr
  refine ⟨fun hq => ⟨by simp [State.outputs, hq], step_idle s h hr hq, fun i valid request =>
    step_accept s h hr hq i ⟨valid, request⟩⟩, fun hq => ⟨by simp [State.outputs, hq], fun v op arg => ?_⟩⟩
  rw [← step_listing_nextIn s]
  apply unselectedInputsHaveNoEffect s { s.nextIn with reqValid := v, reqOp := op, reqArg := arg } s.nextIn
    s.inputs.tail rfl
  cases hs : s.seq with
  | idle => exact absurd hs hq
  | emit => cases hd : s.dump <;> simp
  | settle => simp
  | fin => simp

/-- Settles O10: every arm of `exec` is an `accept`, which a busy block ignores. -/
theorem busyBlockIgnoresRequests : Obligations.BusyBlockIgnoresRequests := by
  intro i s hq
  have ignored (op : OpCode) (arg : Byte) (check : State → Option Status) (effect : State → State) :
      s.accept op arg check effect = s := if_neg hq
  cases i <;> exact congrArg Host.Outcome.next (ignored ..)

/-- Settles O5: a reset edge and an edge of each state of the sequencer answer a next state. -/
theorem machineNeverStops : Obligations.MachineNeverStops := by
  intro s h
  cases hr : s.nextIn.rst with
  | true => exact ⟨_, step_reset s h.1 hr⟩
  | false =>
    rw [step_of_inv s h hr]
    rcases edge_cases s.nextIn s.popIn with ⟨-, -, he⟩ | ⟨-, -, he⟩ | ⟨-, he⟩ | ⟨-, he⟩ | ⟨-, he⟩ <;> rw [he]
    case inr.inl => exact exec_next _ _
    all_goals exact ⟨_, rfl⟩

end Sys2Proof.Machine
end

section
/-! The sequencer edge by edge: acceptance, the two writes, `advance()`, the settle delay and `FIN` (R194, R196, R197, R199,
R200, R201). -/

namespace Sys2Proof.Machine

theorem startPtr_init (c : Cfg) : startPtr c opInit = ⟨0, c.wakeForm == .nibble, 0⟩ := by
  have wake : wakeItem 0#3 = true := by decide
  simp [startPtr, firstNib, wake]

/-! What an arm of `exec` answers in an idle block. -/

section

variable (op : OpCode) (arg : Byte) (check : State → Option Status) (effect : State → State) (s : State)

theorem next_accept_of_check_some (st : Status) (hq : s.seq = .idle) (hc : check s = some st) :
    (.next (s.accept op arg check effect) : Host.Outcome State Fault Refusal) = .next ((s.latch op arg).complete st) :=
  congrArg _ (accept_of_check_some op arg check effect s st hq hc)

theorem next_accept_of_check_none (hq : s.seq = .idle) (hc : check s = none) :
    (.next (s.accept op arg check effect) : Host.Outcome State Fault Refusal) = .next (effect (s.latch op arg)) :=
  congrArg _ (accept_of_check_none op arg check effect s hq hc)

end

/-- Settles O9: the first check that fails refuses the request, and no check lets it take its effect. -/
theorem acceptanceInOrderOfDecision : Obligations.AcceptanceInOrderOfDecision := by
  intro s a hq
  have refused {op check effect st} := next_accept_of_check_some op a check effect s st hq
  have accepted {op check effect} := next_accept_of_check_none op a check effect s hq
  refine ⟨refused rfl, fun hf => ?faulted, fun hf hi => ?notInit, fun hf => ?running, fun hf hi => ?initialised,
    accepted rfl⟩
  case faulted =>
    have faulted : s.faultedCheck = some .eFaulted := if_pos hf
    have not_init : s.notInitCheck = some .eFaulted := if_pos hf
    exact ⟨refused faulted, refused not_init, refused not_init, refused not_init, refused faulted, refused faulted⟩
  case notInit =>
    have not_init : s.notInitCheck = some .eNotInit := by simp [State.notInitCheck, hf, hi]
    exact ⟨refused not_init, refused not_init, refused not_init⟩
  case running =>
    have passes : s.faultedCheck = none := by simp [State.faultedCheck, hf]
    rw [← startPtr_init]
    exact ⟨accepted passes, accepted passes, accepted passes⟩
  case initialised =>
    have passes : s.notInitCheck = none := by simp [State.notInitCheck, hf, hi]
    exact ⟨accepted passes, accepted passes, accepted passes⟩

/-- Settles O15: the two outcomes of `advance_cases`, each under its own value of `nextPtr`. -/
theorem advanceOrComplete : Obligations.AdvanceOrComplete := by
  intro s
  obtain ⟨last, ended⟩ | ⟨q, next, advanced⟩ := advance_cases s
  · have inited : (s.inited || decide (s.opQ = opInit)) = if s.opQ = 0 then true else s.inited := by
      simp [opCodes, Bool.or_comm]
    refine ⟨fun p hp => absurd (last.symm.trans hp) nofun, fun _ => ?_⟩
    rw [ended, State.finish, inited]
    rfl
  · refine ⟨fun p hp => ?_, fun hn => absurd (next.symm.trans hn) nofun⟩
    obtain rfl := Option.some.inj (next.symm.trans hp)
    exact advanced

/-- Settles O13: one clause for each answer of the transport. -/
theorem physicalWriteEdge : Obligations.PhysicalWriteEdge := by
  intro s h hq hd hr
  have valid : s.busValid = true := by simp [State.busValid, hq, hd]
  have written := step_busWrite s h hr hq hd
  refine ⟨valid, if_pos valid, fun hf => ?fail, fun hf ha ht => ?settle, fun hf ha ht => ?advance, fun hf ha => ?wait⟩ <;>
    rw [written]
  case fail => simp [In.busAnswer, hf, State.busWrite, State.raiseTransportError, State.complete, State.setFault,
    State.record, State.popIn, Ptr.zero, State.curByte]
  case settle => simp [In.busAnswer, hf, ha, State.busWrite, ht.ne', State.startSettle, State.record, State.popIn,
    State.curByte]
  case advance => simp [In.busAnswer, hf, ha, State.busWrite, ht, State.record, State.popIn, State.curByte]
  case wait => simp [In.busAnswer, hf, ha, State.busWrite, State.popIn]

/-- The first byte of a list is the byte at its first pointer (R128, R129). -/
theorem emitList_head? (c : Cfg) (op : OpCode) (arg : Byte) (bl : Bool) (hc : c.wf = true) (he : emits op = true) :
    (emitList c op arg bl).head? = some (cur c op arg bl (startPtr c op)) := by
  obtain ⟨start_legal, start_index, -⟩ := pointerWalkFollowsList c op arg bl he
  rw [List.head?_eq_getElem?, ← start_index]
  exact emitList_getElem?_ptrIndex c op arg bl _ hc start_legal

/-- Settles O14: one clause for each answer of the sink; a failure presents the first byte of the list on the bus. -/
theorem dumpWriteEdge : Obligations.DumpWriteEdge := by
  intro s h hq hd hr
  have valid : s.dumpValid = true := by simp [State.dumpValid, hq, hd]
  have written := step_dumpWrite s h hr hq hd
  obtain ⟨-, op_emits, -⟩ := (legal_emit s hq).mp h.2
  refine ⟨valid, if_pos valid, fun hf => ?fail, fun hf ha => ?advance, fun hf ha => ?wait⟩ <;> rw [written]
  case fail =>
    refine ⟨s.popIn.raiseDumpSinkError, by simp [In.dumpAnswer, hf, State.dumpWrite], ?_, rfl,
      (emitList_head? s.cfg s.opQ s.argQ s.bl h.1 op_emits).symm⟩
    rw [State.raiseDumpSinkError, State.present, ← hq]
    rfl
  case advance => simp [In.dumpAnswer, hf, ha, State.dumpWrite, State.record, State.popIn, State.curByte]
  case wait => simp [In.dumpAnswer, hf, ha, State.dumpWrite, State.popIn]

/-- R199: short of its last edge the delay only counts. -/
theorem run_settle_counts (k : Nat) (s : State) (h : s.Inv) (hq : s.seq = .settle) (hk : k < s.dly) (hr : s.noReset s.dly) :
    run k s = .next { s with dly := s.dly - k, inputs := s.inputs.drop k } := by
  induction k generalizing s with
  | zero => rfl
  | succ k ih =>
    obtain ⟨d, hd⟩ : ∃ d, s.dly = d + 1 := ⟨s.dly - 1, by omega⟩
    rw [hd] at hk hr
    obtain ⟨next_no_reset, later_no_reset⟩ := State.noReset_succ hr
    have counted : s.popIn.settleEdge = { s with dly := d, inputs := s.inputs.tail } := by
      have not_last : d ≠ 0 := by omega
      simp [State.settleEdge, State.popIn, hd, not_last]
    rw [run_succ k s _ (step_settle s h hq next_no_reset), counted,
      ih _ (settle_withDly_inv s h hq d (by omega) s.inputs.tail) hq (by simpa using hk) later_no_reset]
    simp [hd]

/-- Settles O16: the counting edges, at which the sequencer stands in `SETTLE`, and the whole delay. -/
theorem settleLastsItsTicks : Obligations.SettleLastsItsTicks := by
  intro s h hq hr
  refine ⟨fun k hk => ⟨_, run_settle_counts k s h hq hk hr, rfl, ?_, ?_, ?_⟩, run_settle s.dly s h hq rfl hr⟩ <;>
    simp [State.outputs, State.busValid, State.dumpValid, hq]

/-- Settles O17: the outputs are read off the state, and the edge is `finEdge`. -/
theorem finLastsOneCycle : Obligations.FinLastsOneCycle := fun s h hq hr =>
  ⟨beq_iff_eq.mpr hq, rfl, step_fin s h hq hr, rfl⟩

end Sys2Proof.Machine
end

section
/-! Every step keeps the invariant (R213): acceptance starts at a legal pointer or completes, and `advance()` goes to a legal
pointer or completes. -/

namespace Sys2Proof.Machine

/-- What R213 asks of a running operation in `EMIT` and in `SETTLE` alike. -/
def State.Running (s : State) : Prop :=
  emits s.opQ = true ∧ s.fault = false ∧ legalPtr s.cfg s.opQ s.ptr = true ∧ s.inited = decide (s.opQ ≠ opInit) ∧
  s.cause = 0 ∧ s.lastStatus.toNat ≤ 4

theorem running_of_emit (s : State) (h : s.Inv) (hq : s.seq = .emit) : s.dly = 0 ∧ s.Running :=
  (legal_emit s hq).mp h.2

theorem running_of_settle (s : State) (h : s.Inv) (hq : s.seq = .settle) :
    1 ≤ s.dly ∧ s.dly ≤ s.cfg.settleTicks ∧ s.dump = false ∧ s.Running :=
  (legal_settle s hq).mp h.2

/-- With no fault there is no cause, and a TransportError sets both: either way a completion meets the invariant (R204). -/
theorem State.Running.cause {s : State} (h : s.Running) :
    (s.fault = true → s.cause = 1) ∧ (s.fault = false → s.cause = 0) := by
  obtain ⟨-, not_faulted, -, -, no_cause, -⟩ := h
  simp [not_faulted, no_cause]

/-- R129: the successor of a legal pointer is legal, so the operation runs on from it. -/
theorem advance_inv (s : State) (hc : s.cfg.wf = true) (hd : s.dly = 0) (h : s.Running) : s.advance.Inv := by
  obtain ⟨op_emits, not_faulted, legal, others⟩ := id h
  obtain ⟨-, ended⟩ | ⟨p, next, advanced⟩ := advance_cases s
  · rw [ended]
    exact ⟨hc, legal_complete .ok _ h.cause⟩
  · obtain ⟨-, -, walk⟩ := pointerWalkFollowsList s.cfg s.opQ s.argQ s.bl op_emits
    obtain ⟨legal', -⟩ := (walk s.ptr legal).1 p next
    rw [advanced]
    exact ⟨hc, (legal_emit (s.present p) rfl).mpr ⟨hd, op_emits, not_faulted, legal', others⟩⟩

theorem busWrite_inv (r : Option Answer) (s : State) (h : s.Inv) (hq : s.seq = .emit) (hd : s.dump = false) :
    (s.busWrite r).Inv := by
  obtain ⟨dly, running⟩ := running_of_emit s h hq
  obtain ⟨-, hw⟩ | ⟨-, hw⟩ | ⟨-, -, hw⟩ | ⟨-, ticks, hw⟩ := busWrite_cases r s <;> rw [hw]
  · exact h
  · exact ⟨h.1, legal_complete .eTransport _ ⟨fun _ => rfl, nofun⟩⟩
  · exact advance_inv (s.record _) h.1 dly running
  · exact ⟨h.1, (legal_settle _ rfl).mpr ⟨ticks, le_rfl, hd, running⟩⟩

theorem dumpWrite_inv (r : Option Answer) (s : State) (h : s.Inv) (hq : s.seq = .emit) : (s.dumpWrite r).Inv := by
  obtain ⟨dly, running⟩ := running_of_emit s h hq
  obtain ⟨-, hw⟩ | ⟨-, hw⟩ | ⟨-, hw⟩ := dumpWrite_cases r s <;> rw [hw]
  · exact h
  · obtain ⟨op_emits, not_faulted, -, others⟩ := running
    obtain ⟨start_legal, -⟩ := pointerWalkFollowsList s.cfg s.opQ s.argQ s.bl op_emits
    exact ⟨h.1, (legal_emit _ rfl).mpr ⟨dly, op_emits, not_faulted, start_legal, others⟩⟩
  · exact advance_inv (s.record _) h.1 dly running

theorem settleEdge_inv (s : State) (h : s.Inv) (hq : s.seq = .settle) : s.settleEdge.Inv := by
  obtain ⟨positive, -, -, running⟩ := running_of_settle s h hq
  obtain ⟨-, hw⟩ | ⟨not_last, hw⟩ := settleEdge_cases s <;> rw [hw]
  · exact advance_inv { s with dly := 0 } h.1 rfl running
  · exact settle_withDly_inv s h hq (s.dly - 1) (by omega) s.inputs

theorem finEdge_inv (s : State) (h : s.Inv) (hq : s.seq = .fin) : s.finEdge.Inv :=
  ⟨h.1, (legal_quiet s.finEdge (.inl rfl)).mpr ((legal_quiet s (.inr hq)).mp h.2)⟩

/-- The request `i`, accepted in `s`, completes at once with status `st`, on either level, where the operation level may be
given other coming edges: `u` is `s` with the latches and the request's own registers written, and the sequencer where it
was. -/
structure CompletesWith (i : Instr) (st : Status) (s u : State) : Prop where
  exec : exec i s = .next (u.complete st)
  perform (l : List In) (answers : List Answer) :
    perform i answers { s with inputs := l } = .completed (({ u with inputs := l } : State).opComplete st) answers
  sequencer : u.seq = s.seq ∧ u.ptr = s.ptr ∧ u.dly = s.dly
  cause : (u.fault = true → u.cause = 1) ∧ (u.fault = false → u.cause = 0)

/-- A request that does not emit is refused, or is one of the system operations (R194, R242, R243). -/
theorem completesWith_of_not_emitsOn (i : Instr) (s : State) (h : s.Inv) (hq : s.seq = .idle) (he : ¬ s.emitsOn i) :
    ∃ st u, CompletesWith i st s u := by
  have cause := legal_cause s h.2
  have refused {op arg check effect st} := next_accept_of_check_some op arg check effect s st hq
  have accepted {op arg check effect} := next_accept_of_check_none op arg check effect s hq
  cases i with
  | init a =>
    have faulted : s.fault = true := by
      by_contra hf
      exact he ⟨rfl, by simpa using hf, .inl rfl⟩
    exact ⟨.eFaulted, s.latch opInit a, refused (if_pos faulted), fun _ _ => if_pos faulted, ⟨rfl, rfl, rfl⟩, cause⟩
  | cmd a | data a | bl a =>
    by_cases hf : s.fault = true
    · exact ⟨.eFaulted, s.latch _ a, refused (if_pos hf), fun _ _ => if_pos hf, ⟨rfl, rfl, rfl⟩, cause⟩
    · have not_inited : s.inited = false := by
        by_contra hi
        exact he ⟨rfl, by simpa using hf, .inr (by simpa using hi)⟩
      have check : s.notInitCheck = some .eNotInit := by simp [State.notInitCheck, hf, not_inited]
      exact ⟨.eNotInit, s.latch _ a, refused check, fun _ _ => (if_neg hf).trans (if_pos not_inited),
        ⟨rfl, rfl, rfl⟩, cause⟩
  | dumpOn a =>
    by_cases hf : s.fault = true
    · exact ⟨.eFaulted, s.latch _ a, refused (if_pos hf), fun _ _ => if_pos hf, ⟨rfl, rfl, rfl⟩, cause⟩
    · exact ⟨.ok, { s.latch opDumpOn a with dump := true, dumpWarn := false }, accepted (if_neg hf),
        fun _ _ => if_neg hf, ⟨rfl, rfl, rfl⟩, cause⟩
  | dumpOff a =>
    by_cases hf : s.fault = true
    · exact ⟨.eFaulted, s.latch _ a, refused (if_pos hf), fun _ _ => if_pos hf, ⟨rfl, rfl, rfl⟩, cause⟩
    · exact ⟨.ok, { s.latch opDumpOff a with dump := false }, accepted (if_neg hf), fun _ _ => if_neg hf,
        ⟨rfl, rfl, rfl⟩, cause⟩
  | recover a =>
    exact ⟨.ok, (s.latch opRecover a).clearFault, accepted rfl, fun _ _ => rfl, ⟨rfl, rfl, rfl⟩, nofun, fun _ => rfl⟩
  | reserved7 a =>
    exact ⟨.eIllegal, s.latch opReserved7 a, refused rfl, fun _ _ => rfl, ⟨rfl, rfl, rfl⟩, cause⟩

theorem exec_inv (i : Instr) (s t : State) (h : s.Inv) (hq : s.seq = .idle) (he : exec i s = .next t) : t.Inv := by
  by_cases emitting : s.emitsOn i
  · rw [exec_of_emitsOn i s hq emitting] at he
    cases he
    obtain ⟨start_legal, -⟩ := pointerWalkFollowsList s.cfg i.op i.arg (s.blAfter i) emitting.1
    exact acceptedBy_present_inv i s h hq emitting _ start_legal s.inputs s.trace
  · obtain ⟨st, u, completes⟩ := completesWith_of_not_emitsOn i s h hq emitting
    obtain ⟨cfg, -⟩ := exec_frame i s t he
    rw [completes.exec] at he
    cases he
    exact ⟨by rw [cfg]; exact h.1, legal_complete st u completes.cause⟩

/-- Settles O4: one lemma for each kind of edge. -/
theorem stepKeepsInv : Obligations.StepKeepsInv := by
  intro s t h hs
  have popped : s.popIn.Inv := h
  rcases step_cases s t h hs with ⟨-, rfl⟩ | ⟨-, he⟩
  · exact ⟨h.1, resetWith_legal s.cfg⟩
  rcases edge_cases s.nextIn s.popIn with ⟨-, -, hw⟩ | ⟨hq, -, hw⟩ | ⟨hq, hw⟩ | ⟨hq, hw⟩ | ⟨hq, hw⟩ <;> rw [hw] at he
  · cases he
    exact popped
  · exact exec_inv _ s.popIn t popped hq he
  · cases he
    obtain ⟨hd, hw⟩ | ⟨-, hw⟩ := emitEdge_cases s.nextIn s.popIn <;> rw [hw]
    · exact busWrite_inv _ s.popIn popped hq hd
    · exact dumpWrite_inv _ s.popIn popped hq
  · cases he
    exact settleEdge_inv s.popIn popped hq
  · cases he
    exact finEdge_inv s.popIn popped hq

end Sys2Proof.Machine
end

section
/-! The clocked machine and the operation level (R13, R127, R212): a state of the clocked machine is read as the point of the
pseudocode of `Run(L)` it has reached, and every edge keeps what is left to run. -/

namespace Sys2Proof.Machine

/-- The bytes of the running list that come after the current one. -/
def State.afterCurrent (s : State) : List Byte := s.runningList.drop (ptrIndex s.cfg s.opQ s.ptr + 1)

/-- The bytes of the running list from the current one on. -/
def State.fromCurrent (s : State) : List Byte := s.runningList.drop (ptrIndex s.cfg s.opQ s.ptr)

/-- R128: the current byte is the first of those not yet written. -/
theorem fromCurrent_eq_cons (s : State) (hc : s.cfg.wf = true) (h : s.Running) :
    s.fromCurrent = s.curByte :: s.afterCurrent := by
  obtain ⟨-, -, legal, -⟩ := h
  obtain ⟨in_list, byte⟩ := List.getElem?_eq_some_iff.mp
    (emitList_getElem?_ptrIndex s.cfg s.opQ s.argQ s.bl s.ptr hc legal)
  exact (List.drop_eq_getElem_cons in_list).trans (congrArg (· :: s.afterCurrent) byte)

/-- R129: the first emission stands before the whole list. -/
theorem startEmission_fromCurrent (s : State) (he : emits s.opQ = true) :
    s.startEmission.fromCurrent = s.runningList := by
  obtain ⟨-, start_index, -⟩ := pointerWalkFollowsList s.cfg s.opQ s.argQ s.bl he
  exact congrArg s.runningList.drop start_index

/-- R129, R200: `advance()` ends the operation when nothing comes after the current byte, and presents the next byte
otherwise. -/
theorem advance_along_list (s : State) (h : s.Running) :
    (s.afterCurrent = [] ∧ s.advance = s.finish) ∨
    (∃ p, s.advance = s.present p ∧ (s.present p).fromCurrent = s.afterCurrent) := by
  obtain ⟨op_emits, -, legal, -⟩ := h
  obtain ⟨-, -, walk⟩ := pointerWalkFollowsList s.cfg s.opQ s.argQ s.bl op_emits
  obtain ⟨to_next, at_end⟩ := walk s.ptr legal
  obtain ⟨last, ended⟩ | ⟨p, next, advanced⟩ := advance_cases s
  · exact .inl ⟨List.drop_eq_nil_of_le (at_end.mp last).ge, ended⟩
  · obtain ⟨-, index⟩ := to_next p next
    exact .inr ⟨p, advanced, congrArg s.runningList.drop index⟩

/-- The state as the operation level sees it: the sequencer at rest and the coming edges `l` (log entry 15). -/
def State.atOperationLevel (l : List In) (s : State) : State :=
  { s with seq := .idle, ptr := Ptr.zero, dly := 0, inputs := l }

/-- What the operation level makes of the answers still to come, from the point of `Run(L)` at which the clocked machine
stands: before the current byte in `EMIT`, after it in `SETTLE`, and past the list in `FIN` and `IDLE`. -/
def State.resume (l : List In) (answers : List Answer) (s : State) : OpResult :=
  match s.seq with
  | .idle | .fin => .completed (s.atOperationLevel l) answers
  | .emit => runList s.runningList s.fromCurrent answers (s.atOperationLevel l)
  | .settle => runList s.runningList s.afterCurrent answers (s.atOperationLevel l)

section

variable (l : List In) (answers : List Answer)

theorem runList_nil (full : List Byte) (s : State) : runList full [] answers s =
    .completed (({ s with inited := s.inited || decide (s.opQ = opInit) } : State).opComplete .ok) answers := by
  cases answers <;> rfl

theorem resume_advance (s : State) (h : s.Running) :
    s.advance.resume l answers = runList s.runningList s.afterCurrent answers (s.atOperationLevel l) := by
  obtain ⟨nothing_left, ended⟩ | ⟨p, advanced, left⟩ := advance_along_list s h
  · rw [nothing_left, ended, runList_nil]
    rfl
  · rw [advanced, ← left]
    rfl

/-- In `EMIT` the current byte is the next of the loop of `Run(L)`. -/
theorem resume_emit (s : State) (h : s.Inv) (hq : s.seq = .emit) :
    s.resume l answers = runList s.runningList (s.curByte :: s.afterCurrent) answers (s.atOperationLevel l) := by
  obtain ⟨-, running⟩ := running_of_emit s h hq
  rw [← fromCurrent_eq_cons s h.1 running]
  simp only [State.resume, hq]

theorem resume_settle (s : State) (hq : s.seq = .settle) :
    s.resume l answers = runList s.runningList s.afterCurrent answers (s.atOperationLevel l) := by
  simp only [State.resume, hq]

theorem resume_quiet (s : State) (hq : s.seq = .idle ∨ s.seq = .fin) :
    s.resume l answers = .completed (s.atOperationLevel l) answers := by
  rcases hq with hq | hq <;> simp only [State.resume, hq]

/-- An operation that starts has its whole list before it, and so has one that starts again (R127). -/
theorem resume_startEmission (s : State) (he : emits s.opQ = true) :
    s.startEmission.resume l answers = runList s.runningList s.runningList answers (s.atOperationLevel l) :=
  congrArg (runList s.runningList · answers (s.atOperationLevel l)) (startEmission_fromCurrent s he)

/-- An edge of a physical write is one turn of the loop of `Run(L)`, or none if there is no answer (R127, R196). -/
theorem resume_busWrite (r : Option Answer) (s : State) (h : s.Inv) (hq : s.seq = .emit) (hd : s.dump = false) :
    (s.busWrite r).resume l answers = s.resume l (r.toList ++ answers) := by
  obtain ⟨-, running⟩ := running_of_emit s h hq
  have physical : (s.atOperationLevel l).dump = false := hd
  obtain ⟨rfl, hw⟩ | ⟨rfl, hw⟩ | ⟨rfl, -, hw⟩ | ⟨rfl, -, hw⟩ := busWrite_cases r s <;> rw [hw]
  case inl => rfl
  all_goals
    rw [resume_emit l _ s h hq]
    simp only [Option.toList_some, List.singleton_append, runList, physical, Bool.false_eq_true, if_false]
  · exact resume_quiet l answers s.raiseTransportError (.inr rfl)
  · exact resume_advance l answers (s.record _) running
  · exact resume_settle l answers (s.record _).startSettle rfl

/-- An edge of a dump write likewise; a failed one starts the list again (R127, R197, R236). -/
theorem resume_dumpWrite (r : Option Answer) (s : State) (h : s.Inv) (hq : s.seq = .emit) (hd : s.dump = true) :
    (s.dumpWrite r).resume l answers = s.resume l (r.toList ++ answers) := by
  obtain ⟨-, running⟩ := running_of_emit s h hq
  have logging : (s.atOperationLevel l).dump = true := hd
  obtain ⟨rfl, hw⟩ | ⟨rfl, hw⟩ | ⟨rfl, hw⟩ := dumpWrite_cases r s <;> rw [hw]
  case inl => rfl
  all_goals
    rw [resume_emit l _ s h hq]
    simp only [Option.toList_some, List.singleton_append, runList, logging, if_true]
  · exact resume_startEmission l answers ((s.record (.dumpFail s.curByte)).warnDump) running.1
  · exact resume_advance l answers (s.record _) running

/-- The counter is time only, and has no part in the operation level (R126). -/
theorem resume_settleEdge (s : State) (h : s.Inv) (hq : s.seq = .settle) :
    s.settleEdge.resume l answers = s.resume l answers := by
  obtain ⟨-, -, -, running⟩ := running_of_settle s h hq
  obtain ⟨-, hw⟩ | ⟨-, hw⟩ := settleEdge_cases s <;> rw [hw, resume_settle l answers s hq]
  · exact resume_advance l answers { s with dly := 0 } running
  · exact resume_settle l answers { s with dly := s.dly - 1 } hq

/-- Outside `EMIT` no write is in flight, and no answer is seen (R51, R55). -/
theorem answerNow_of_ne_emit (s : State) (hq : s.seq ≠ .emit) : s.answerNow = none := by
  simp [State.answerNow, State.busValid, State.dumpValid, hq]

/-- The commuting diagram of R212: from a busy state, an edge and the answer it sees lead to the same result as the state. -/
theorem resume_step (s t : State) (h : s.Inv) (hq : s.seq ≠ .idle) (hr : s.nextIn.rst = false) (hs : step s = .next t) :
    t.resume l answers = s.resume l (s.answerNow.toList ++ answers) := by
  have popped : s.popIn.Inv := h
  cases hseq : s.seq with
  | idle => exact absurd hseq hq
  | emit =>
    cases hd : s.dump with
    | false =>
      obtain rfl := Host.Outcome.next.inj ((step_busWrite s h hr hseq hd).symm.trans hs)
      have answer : s.answerNow = s.nextIn.busAnswer := by simp [State.answerNow, State.busValid, hseq, hd]
      rw [answer]
      exact resume_busWrite l answers _ s.popIn popped hseq hd
    | true =>
      obtain rfl := Host.Outcome.next.inj ((step_dumpWrite s h hr hseq hd).symm.trans hs)
      have answer : s.answerNow = s.nextIn.dumpAnswer := by
        simp [State.answerNow, State.busValid, State.dumpValid, hseq, hd]
      rw [answer]
      exact resume_dumpWrite l answers _ s.popIn popped hseq hd
  | settle =>
    obtain rfl := Host.Outcome.next.inj ((step_settle s h hseq hr).symm.trans hs)
    rw [answerNow_of_ne_emit s (by simp [hseq])]
    exact resume_settleEdge l answers s.popIn popped hseq
  | fin =>
    obtain rfl := Host.Outcome.next.inj ((step_fin s h hseq hr).symm.trans hs)
    rw [answerNow_of_ne_emit s (by simp [hseq]), resume_quiet l _ s (.inr hseq)]
    rfl

end

theorem answersSeen_succ (k : Nat) (s t : State) (hs : step s = .next t) :
    answersSeen (k + 1) s = s.answerNow.toList ++ answersSeen k t := by
  rw [answersSeen, hs]

/-- Along a run that stays busy until its end, the answers seen lead to the result of the state reached. -/
theorem resume_run (l : List In) (k : Nat) (s u : State) (h : s.Inv) (hr : s.noReset k)
    (busy : ∀ m v, m < k → run m s = .next v → v.seq ≠ .idle) (hu : run k s = .next u) :
    s.resume l (answersSeen k s) = u.resume l [] ∧ u.Inv := by
  induction k generalizing s with
  | zero =>
    obtain rfl := Host.Outcome.next.inj hu
    exact ⟨rfl, h⟩
  | succ k ih =>
    obtain ⟨t, hs, ht⟩ := run_succ_inv k s u hu
    obtain ⟨next_no_reset, later_no_reset⟩ := State.noReset_succ hr
    obtain ⟨-, inputs, -⟩ := traceGrowsByTheSelectedWrite s t h hs
    have still_busy : ∀ m v, m < k → run m t = .next v → v.seq ≠ .idle := fun m v hm hv =>
      busy (m + 1) v (Nat.succ_lt_succ hm) ((run_succ m s t hs).trans hv)
    obtain ⟨result, inv⟩ := ih t (stepKeepsInv s t h hs) (by rwa [State.noReset, inputs]) still_busy ht
    rw [answersSeen_succ k s t hs, ← resume_step l _ s t h (busy 0 s (Nat.succ_pos k) rfl) next_no_reset hs]
    exact ⟨result, inv⟩

/-- The two levels agree on acceptance (R194, R212). -/
theorem perform_eq_resume (i : Instr) (answers : List Answer) (s t : State) (h : s.Inv) (hq : s.seq = .idle)
    (ht : exec i s.popIn = .next t) : perform i answers s = t.resume s.inputs answers := by
  obtain ⟨ptr, dly, -⟩ := (legal_quiet s (.inl hq)).mp h.2
  by_cases emitting : s.emitsOn i
  · obtain rfl := Host.Outcome.next.inj ((exec_of_emitsOn i s.popIn hq emitting).symm.trans ht)
    have accepted : s.acceptedBy i = (s.popIn.acceptedBy i).atOperationLevel s.inputs := by
      rw [State.atOperationLevel, ← hq, ← ptr, ← dly]
      rfl
    rw [perform_of_emitsOn i answers s emitting, accepted]
    exact (resume_startEmission s.inputs answers (s.popIn.acceptedBy i) emitting.1).symm
  · obtain ⟨st, u, completes⟩ := completesWith_of_not_emitsOn i s.popIn h hq emitting
    obtain rfl := Host.Outcome.next.inj (completes.exec.symm.trans ht)
    obtain ⟨seq, uptr, udly⟩ := completes.sequencer
    have at_rest : ({ u with inputs := s.inputs } : State).opComplete st = (u.complete st).atOperationLevel s.inputs := by
      rw [State.atOperationLevel, State.opComplete, seq, uptr, udly]
      simp [hq, ptr, dly]
    rw [resume_quiet s.inputs answers _ (.inr rfl), ← at_rest]
    exact completes.perform s.inputs answers

/-- Settles O24: acceptance, then the run of the sequencer; what is left to resume at its end is nothing or the write that
is waiting. -/
theorem clockedMachineAgreesWithOperations : Obligations.ClockedMachineAgreesWithOperations := by
  intro i s u k h hq hp hr hk busy hu
  obtain ⟨k, rfl⟩ := Nat.exists_eq_succ_of_ne_zero hk.ne'
  obtain ⟨t, hs, ht⟩ := run_succ_inv k s u hu
  obtain ⟨next_no_reset, later_no_reset⟩ := State.noReset_succ hr
  obtain ⟨-, inputs, -⟩ := traceGrowsByTheSelectedWrite s t h hs
  have busy_after : ∀ m v, m < k → run m t = .next v → v.seq ≠ .idle := fun m v hm hv =>
    busy (m + 1) v (Nat.succ_pos m) (Nat.succ_lt_succ hm) ((run_succ m s t hs).trans hv)
  obtain ⟨result, inv⟩ :=
    resume_run s.inputs k t u (stepKeepsInv s t h hs) (by rwa [State.noReset, inputs]) busy_after ht
  have performed : perform i (answersSeen (k + 1) s) s = u.resume s.inputs [] := by
    rw [answersSeen_succ k s t hs, answerNow_of_ne_emit s (by simp [hq]), ← result]
    exact perform_eq_resume i _ s t h hq ((step_accept s h next_no_reset hq i hp).symm.trans hs)
  refine ⟨fun ended => ?_, fun waiting => ?_⟩
  · obtain ⟨ptr, dly, -⟩ := (legal_quiet u ended.symm).mp inv.2
    rw [performed, resume_quiet s.inputs [] u ended.symm, State.atOperationLevel, ← ptr, ← dly]
  · obtain ⟨dly, -⟩ := running_of_emit u inv waiting
    rw [performed, resume_emit s.inputs [] u inv waiting, runList, State.atOperationLevel, ← dly]
    rfl

end Sys2Proof.Machine
end

section
/-! Bounded completion (R211): a bound on the edges to `IDLE` that every edge lowers, as long as every write is answered. -/

namespace Sys2Proof.Machine

/-- A bound on the edges to `IDLE` of a block that has the bytes `rest` left to write, every write being answered: in dump
mode the last of them may fail and start the list again, on the bus. -/
def State.writeBudget (rest : List Byte) (s : State) : Nat :=
  if s.dump then rest.length + s.runningList.length * (1 + s.cfg.settleTicks) + 1
  else rest.length * (1 + s.cfg.settleTicks) + 1

/-- A bound on the edges to `IDLE`, every write being answered. -/
def State.budget (s : State) : Nat :=
  match s.seq with
  | .idle => 0
  | .emit => s.writeBudget s.fromCurrent
  | .settle => s.dly + s.writeBudget s.afterCurrent
  | .fin => 1

theorem budget_settle (s : State) (hq : s.seq = .settle) : s.budget = s.dly + s.writeBudget s.afterCurrent := by
  simp only [State.budget, hq]

theorem budget_fin (s : State) (hq : s.seq = .fin) : s.budget = 1 := by
  simp only [State.budget, hq]

theorem budget_emit (s : State) (h : s.Inv) (hq : s.seq = .emit) :
    s.budget = s.writeBudget (s.curByte :: s.afterCurrent) := by
  obtain ⟨-, running⟩ := running_of_emit s h hq
  rw [← fromCurrent_eq_cons s h.1 running]
  simp only [State.budget, hq]

theorem budget_startEmission (s : State) (he : emits s.opQ = true) :
    s.startEmission.budget = s.writeBudget s.runningList :=
  congrArg (State.writeBudget · s) (startEmission_fromCurrent s he)

theorem writeBudget_pos (rest : List Byte) (s : State) : 1 ≤ s.writeBudget rest := by
  unfold State.writeBudget
  split <;> exact Nat.le_add_left ..

theorem budget_pos (s : State) (hq : s.seq ≠ .idle) : 1 ≤ s.budget := by
  cases hs : s.seq with
  | idle => exact absurd hs hq
  | emit => simpa only [State.budget, hs] using writeBudget_pos ..
  | settle => exact (writeBudget_pos ..).trans ((Nat.le_add_left ..).trans (budget_settle s hs).ge)
  | fin => exact (budget_fin s hs).ge

/-- Edges are left to go before `IDLE`, and fewer than `n`. -/
def State.BusyBelow (n : Nat) (s : State) : Prop := s.seq ≠ .idle ∧ s.budget < n

theorem advance_busyBelow (n : Nat) (s : State) (h : s.Running) (hn : s.writeBudget s.afterCurrent < n) :
    s.advance.BusyBelow n := by
  obtain ⟨-, ended⟩ | ⟨p, advanced, left⟩ := advance_along_list s h
  · rw [ended]
    exact ⟨nofun, (budget_fin s.finish rfl).trans_lt ((writeBudget_pos ..).trans_lt hn)⟩
  · rw [advanced]
    exact ⟨nofun, (congrArg (State.writeBudget · s) left).trans_lt hn⟩

theorem busWrite_busyBelow (r : Option Answer) (s : State) (h : s.Inv) (hq : s.seq = .emit) (hd : s.dump = false)
    (hr : r ≠ none) : (s.busWrite r).BusyBelow s.budget := by
  obtain ⟨-, running⟩ := running_of_emit s h hq
  have budget : s.budget = s.writeBudget s.afterCurrent + s.cfg.settleTicks + 1 := by
    rw [budget_emit s h hq]
    simp only [State.writeBudget, hd, Bool.false_eq_true, if_false, List.length_cons, Nat.add_one_mul]
    omega
  have left := writeBudget_pos s.afterCurrent s
  obtain ⟨unanswered, -⟩ | ⟨-, hw⟩ | ⟨-, -, hw⟩ | ⟨-, -, hw⟩ := busWrite_cases r s
  · exact absurd unanswered hr
  · rw [hw]
    exact ⟨nofun, by rw [budget_fin s.raiseTransportError rfl]; omega⟩
  · rw [hw]
    exact advance_busyBelow _ (s.record _) running (show s.writeBudget s.afterCurrent < s.budget by omega)
  · rw [hw]
    have settling : ((s.record (.busWrite s.curByte)).startSettle).budget =
        s.cfg.settleTicks + s.writeBudget s.afterCurrent := budget_settle _ rfl
    exact ⟨nofun, by omega⟩

theorem dumpWrite_busyBelow (r : Option Answer) (s : State) (h : s.Inv) (hq : s.seq = .emit) (hd : s.dump = true)
    (hr : r ≠ none) : (s.dumpWrite r).BusyBelow s.budget := by
  obtain ⟨-, running⟩ := running_of_emit s h hq
  have budget : s.budget = s.writeBudget s.afterCurrent + 1 := by
    rw [budget_emit s h hq]
    simp only [State.writeBudget, hd, if_true, List.length_cons]
    omega
  obtain ⟨unanswered, -⟩ | ⟨-, hw⟩ | ⟨-, hw⟩ := dumpWrite_cases r s
  · exact absurd unanswered hr
  · have restarted : s.raiseDumpSinkError.budget = s.runningList.length * (1 + s.cfg.settleTicks) + 1 :=
      budget_startEmission ((s.record (.dumpFail s.curByte)).warnDump) running.1
    have one_pass : s.runningList.length * (1 + s.cfg.settleTicks) + 1 ≤ s.writeBudget s.afterCurrent := by
      simp only [State.writeBudget, hd, if_true]
      omega
    rw [hw]
    exact ⟨nofun, by omega⟩
  · rw [hw]
    exact advance_busyBelow _ (s.record _) running (show s.writeBudget s.afterCurrent < s.budget by omega)

theorem settleEdge_busyBelow (s : State) (h : s.Inv) (hq : s.seq = .settle) : s.settleEdge.BusyBelow s.budget := by
  obtain ⟨positive, -, -, running⟩ := running_of_settle s h hq
  have budget := budget_settle s hq
  obtain ⟨-, hw⟩ | ⟨-, hw⟩ := settleEdge_cases s <;> rw [hw]
  · exact advance_busyBelow _ { s with dly := 0 } running (show s.writeBudget s.afterCurrent < s.budget by omega)
  · have counted : ({ s with dly := s.dly - 1 } : State).budget = s.dly - 1 + s.writeBudget s.afterCurrent :=
      budget_settle { s with dly := s.dly - 1 } hq
    have busy : s.seq ≠ .idle := by simp [hq]
    exact ⟨busy, by omega⟩

/-- An edge without reset at which both sinks answer. -/
def In.answers (e : In) : Prop := e.rst = false ∧ e.busAnswer ≠ none ∧ e.dumpAnswer ≠ none

/-- R211: an answered edge of a running operation brings its end nearer. -/
theorem step_busyBelow (s t : State) (h : s.Inv) (hq : s.seq = .emit ∨ s.seq = .settle) (ha : s.nextIn.answers)
    (hs : step s = .next t) : t.BusyBelow s.budget := by
  have popped : s.popIn.Inv := h
  obtain ⟨hr, bus, dump⟩ := ha
  rcases hq with hq | hq
  · cases hd : s.dump with
    | false =>
      obtain rfl := Host.Outcome.next.inj ((step_busWrite s h hr hq hd).symm.trans hs)
      exact busWrite_busyBelow _ s.popIn popped hq hd bus
    | true =>
      obtain rfl := Host.Outcome.next.inj ((step_dumpWrite s h hr hq hd).symm.trans hs)
      exact dumpWrite_busyBelow _ s.popIn popped hq hd dump
  · obtain rfl := Host.Outcome.next.inj ((step_settle s h hq hr).symm.trans hs)
    exact settleEdge_busyBelow s.popIn popped hq

/-- R194: an accepted request has at most two passes over its list before it, and the edge in `FIN`. -/
theorem exec_busyBelow (i : Instr) (s t : State) (h : s.Inv) (hq : s.seq = .idle) (he : exec i s = .next t) :
    t.BusyBelow ((s.listOf i).length + (s.listOf i).length * (1 + s.cfg.settleTicks) + 2) := by
  by_cases emitting : s.emitsOn i
  · obtain rfl := Host.Outcome.next.inj ((exec_of_emitsOn i s hq emitting).symm.trans he)
    have budget : (s.acceptedBy i).startEmission.budget = (s.acceptedBy i).writeBudget (s.listOf i) :=
      budget_startEmission (s.acceptedBy i) emitting.1
    have two_passes : (s.acceptedBy i).writeBudget (s.listOf i) ≤
        (s.listOf i).length + (s.listOf i).length * (1 + s.cfg.settleTicks) + 1 := by
      unfold State.writeBudget
      split
      · exact le_rfl
      · exact Nat.add_le_add_right (Nat.le_add_left ..) 1
    exact ⟨nofun, by omega⟩
  · obtain ⟨st, u, completes⟩ := completesWith_of_not_emitsOn i s h hq emitting
    obtain rfl := Host.Outcome.next.inj (completes.exec.symm.trans he)
    exact ⟨nofun, by rw [budget_fin (u.complete st) rfl]; omega⟩

/-- The block has `op` in its latches, and its trace is `tr` with some events more, the last of them `Done` in `FIN`. -/
structure Serves (op : OpCode) (tr : List Event) (s : State) : Prop where
  opQ : s.opQ = op
  grown : tr <+: s.trace
  completed : s.seq = .fin → ∃ es st, s.trace = tr ++ es ++ [.done op st]

theorem step_serves (op : OpCode) (tr : List Event) (s t : State) (h : s.Inv) (hr : s.nextIn.rst = false)
    (hs : step s = .next t) (grown : tr <+: s.trace) (opQ : t.opQ = op) : Serves op tr t := by
  obtain ⟨-, -, -, trace⟩ := traceGrowsByTheSelectedWrite s t h hs
  obtain ⟨ws, ds, added, -⟩ := trace hr
  obtain ⟨before, split⟩ := grown
  refine ⟨opQ, ⟨before ++ ws ++ ds, by simp [added, ← split]⟩, fun hq => ?_⟩
  obtain ⟨-, -, fin, -⟩ := completionRecordsStatus.1 s t h hs
  obtain ⟨-, -, st, es, -, completed, -⟩ := fin hr hq
  exact ⟨before ++ es, st, by simp [completed, opQ, ← split]⟩

/-- The next `n` edges are listed, and answered. -/
def State.AnsweredFor (n : Nat) (s : State) : Prop := n ≤ s.inputs.length ∧ ∀ e ∈ s.inputs.take n, e.answers

theorem answeredFor_succ (n : Nat) (s t : State) (ha : s.AnsweredFor (n + 1)) (hi : t.inputs = s.inputs.tail) :
    s.nextIn.answers ∧ t.AnsweredFor n := by
  obtain ⟨listed, answered⟩ := ha
  cases hs : s.inputs with
  | nil => simp [hs] at listed
  | cons e es => simp_all [State.AnsweredFor, State.nextIn]

/-- R211: a busy block is idle again within its budget. -/
theorem busy_completes (op : OpCode) (tr : List Event) (n : Nat) (s : State) (h : s.Inv) (ha : s.AnsweredFor n)
    (hb : s.BusyBelow (n + 1)) (serves : Serves op tr s) :
    ∃ k u st es, k ≤ n ∧ run k s = .next u ∧ u.seq = .idle ∧ u.trace = tr ++ es ++ [.done op st] := by
  induction n generalizing s with
  | zero =>
    obtain ⟨busy, below⟩ := hb
    exact absurd (budget_pos s busy) (by omega)
  | succ n ih =>
    obtain ⟨busy, below⟩ := hb
    obtain ⟨t, hs⟩ := machineNeverStops s h
    obtain ⟨-, inputs, -⟩ := traceGrowsByTheSelectedWrite s t h hs
    obtain ⟨answered, later_answered⟩ := answeredFor_succ n s t ha inputs
    have hr := answered.1
    by_cases hq : s.seq = .fin
    · obtain rfl := Host.Outcome.next.inj ((step_fin s h hq hr).symm.trans hs)
      obtain ⟨es, st, completed⟩ := serves.completed hq
      exact ⟨1, _, st, es, Nat.le_add_left .., run_succ 0 s _ hs, rfl, completed⟩
    · have running : s.seq = .emit ∨ s.seq = .settle := by
        cases hseq : s.seq <;> simp_all
      obtain ⟨t_busy, t_below⟩ := step_busyBelow s t h running answered hs
      have same_op : t.opQ = op := by
        obtain ⟨-, -, kept⟩ := latchWriters s t h hs
        exact (kept hr fun accepted => busy accepted.1).1.trans serves.opQ
      obtain ⟨k, u, st, es, hk, hu, idle, completed⟩ := ih t (stepKeepsInv s t h hs) later_answered
        ⟨t_busy, by omega⟩ (step_serves op tr s t h hr hs serves.grown same_op)
      exact ⟨k + 1, u, st, es, Nat.succ_le_succ hk, (run_succ k s t hs).trans hu, idle, completed⟩

/-- Settles O25: the accepting edge, then the budget of the state it leaves. -/
theorem answeredRequestsComplete : Obligations.AnsweredRequestsComplete := by
  intro i s n hn h hq hp hr hl ha
  obtain ⟨n, rfl⟩ : ∃ m, n = m + 1 := ⟨n - 1, by omega⟩
  obtain ⟨t, hs⟩ := machineNeverStops s h
  obtain ⟨-, inputs, -⟩ := traceGrowsByTheSelectedWrite s t h hs
  obtain ⟨⟨next_no_reset, -⟩, later_answered⟩ :=
    answeredFor_succ n s t ⟨hl, fun e he => ⟨hr e he, ha e he⟩⟩ inputs
  have accepted : exec i s.popIn = .next t := (step_accept s h next_no_reset hq i hp).symm.trans hs
  have same_list : s.popIn.listOf i = s.listOf i := by cases i <;> rfl
  have busy : t.BusyBelow (n + 1) := by
    rw [hn, ← same_list]
    exact exec_busyBelow i s.popIn t h hq accepted
  have latched : t.opQ = i.op := by
    obtain ⟨valid, rfl⟩ := hp
    obtain ⟨-, written, -⟩ := latchWriters s t h hs
    exact (written next_no_reset ⟨hq, valid⟩).1.trans (decodeReq_fields ..).1.symm
  obtain ⟨k, u, st, es, hk, hu, idle, completed⟩ := busy_completes i.op s.trace n t (stepKeepsInv s t h hs)
    later_answered busy (step_serves i.op s.trace s t h next_no_reset hs List.prefix_rfl latched)
  exact ⟨k + 1, u, st, es, Nat.succ_pos k, Nat.succ_le_succ hk, (run_succ k s t hs).trans hu, idle, completed⟩

end Sys2Proof.Machine
end

section
/-! The two exceptions of a write: a TransportError ends the operation where it stands (R232, R233, R247), a DumpSinkError
starts it again on the physical bus (R236, R237). -/

namespace Sys2Proof.Machine

/-- What an edge does to a write in flight it does after any wait as well (R52, R56). -/
theorem run_quiet_step (w : Nat) (s t : State) (rest : List In) (h : s.Inv) (hq : s.seq = .emit)
    (hi : s.inputs = List.replicate w In.quiet ++ rest) (hs : step { s with inputs := rest } = .next t) :
    run (w + 1) s = .next t := by
  rw [run_add w 1 s _ (run_quiet w s rest h hq hi)]
  exact run_succ 0 _ t hs

/-- R232: the write answered `fail` after any wait. -/
theorem run_busWrite_fail (w : Nat) (s : State) (rest : List In) (h : s.Inv) (hq : s.seq = .emit) (hd : s.dump = false)
    (hi : s.inputs = List.replicate w In.quiet ++ In.bus .fail :: rest) :
    run (w + 1) s = .next ({ s with inputs := rest } : State).raiseTransportError :=
  run_quiet_step w s _ _ h hq hi (step_busWrite { s with inputs := In.bus .fail :: rest } h rfl hq hd)

/-- R236: the dump write answered `fail` after any wait. -/
theorem run_dumpWrite_fail (w : Nat) (s : State) (rest : List In) (h : s.Inv) (hq : s.seq = .emit) (hd : s.dump = true)
    (hi : s.inputs = List.replicate w In.quiet ++ In.dump .fail :: rest) :
    run (w + 1) s = .next ({ s with inputs := rest } : State).raiseDumpSinkError :=
  run_quiet_step w s _ _ h hq hi (step_dumpWrite { s with inputs := In.dump .fail :: rest } h rfl hq hd)

/-- R213 holds along a run, of every kind of edge. -/
theorem run_keeps_inv (k : Nat) (s t : State) (h : s.Inv) (hr : run k s = .next t) : t.Inv := by
  induction k generalizing s with
  | zero =>
    cases hr
    exact h
  | succ k ih =>
    obtain ⟨u, stepped, later⟩ := run_succ_inv k s t hr
    exact ih u (stepKeepsInv s u h stepped) later

/-- Settles O18: the failing edge leaves `raiseTransportError`, and the next one is that of `FIN`. -/
theorem transportErrorEntry : Obligations.TransportErrorEntry := by
  intro s h hq hd hr hf
  obtain ⟨first_no_reset, later_no_reset⟩ := State.noReset_succ hr
  obtain ⟨second_no_reset, -⟩ := State.noReset_succ later_no_reset
  have raised : step s = .next s.popIn.raiseTransportError := by
    rw [step_busWrite s h first_no_reset hq hd]
    simp [In.busAnswer, hf, State.busWrite]
  have left := step_fin _ (stepKeepsInv s _ h raised) rfl second_no_reset
  refine ⟨_, raised, rfl, rfl, rfl, rfl, rfl, rfl, rfl, rfl, rfl, rfl, rfl, rfl, ?_⟩
  rw [run_succ 1 s _ raised, run_succ 0 _ _ left, ← List.tail_drop, List.drop_one]
  rfl

theorem acceptedBy_startEmission_inv (i : Instr) (s : State) (h : s.Inv) (hq : s.seq = .idle) (he : s.emitsOn i) :
    (s.acceptedBy i).startEmission.Inv :=
  exec_inv i s _ h hq (exec_of_emitsOn i s hq he)

/-- R128: the byte at a legal pointer is the list's byte of the pointer's index. -/
theorem cur_eq_of_getElem? (c : Cfg) (op : OpCode) (arg : Byte) (bl : Bool) (hc : c.wf = true) (p : Ptr)
    (legal : legalPtr c op p = true) {n : Nat} {v : Byte} (index : ptrIndex c op p = n)
    (hv : (emitList c op arg bl)[n]? = some v) : cur c op arg bl p = v := by
  have byte := emitList_getElem?_ptrIndex c op arg bl p hc legal
  rw [index] at byte
  exact Option.some.inj (byte.symm.trans hv)

/-- R233: a block at its first emission in physical mode makes the writes before the failing one, and ends there. -/
theorem run_busWrites_fail (s : State) (h : s.Inv) (hq : s.seq = .emit) (start : s.ptr = startPtr s.cfg s.opQ)
    (hd : s.dump = false) (ws : List Nat) (w : Nat) (v : Byte) (rest : List In)
    (hv : s.runningList[ws.length]? = some v)
    (hi : s.inputs = physicalEdges s.cfg.settleTicks ws ++ (List.replicate w In.quiet ++ In.bus .fail :: rest)) :
    run ((physicalEdges s.cfg.settleTicks ws).length + (w + 1)) s =
      .next ((((s.wrote (s.runningList.take ws.length) rest).record (.busFail v)).setFault).complete .eTransport) := by
  obtain ⟨p, legal, index, written⟩ :=
    run_busWrites s h hq start hd ws _ (List.getElem?_eq_some_iff.mp hv).1 hi
  have byte : cur s.cfg s.opQ s.argQ s.bl p = v := cur_eq_of_getElem? _ _ _ _ h.1 p legal index hv
  rw [run_add _ _ _ _ written, run_busWrite_fail w _ rest (wrote_present_inv s h hq p legal _ _) rfl hd rfl, ← byte]
  rfl

/-- R237: a request accepted in dump mode logs the bytes before the failing one, and is at its first emission again, in
physical mode. -/
theorem run_dumpWrites_fail (i : Instr) (s : State) (h : s.Inv) (hq : s.seq = .idle) (he : s.emitsOn i)
    (hd : s.dump = true) (ws : List Nat) (w : Nat) (v : Byte) (rest : List In)
    (hv : (s.listOf i)[ws.length]? = some v)
    (hi : s.inputs = dumpEdges ws ++ (List.replicate w In.quiet ++ In.dump .fail :: rest)) :
    run ((ws.map (· + 1)).sum + (w + 1)) (s.acceptedBy i).startEmission =
      .next (((s.logged i ws.length rest).record (.dumpFail v)).warnDump).startEmission := by
  obtain ⟨p, legal, index, logged⟩ :=
    run_dumpWrites i s h hq he hd ws _ (List.getElem?_eq_some_iff.mp hv).1 hi
  have byte : cur s.cfg i.op i.arg (s.blAfter i) p = v := cur_eq_of_getElem? _ _ _ _ h.1 p legal index hv
  have inv := run_keeps_inv _ _ _ (acceptedBy_startEmission_inv i s h hq he) logged
  rw [run_add _ _ _ _ logged, run_dumpWrite_fail w _ rest inv rfl hd rfl, ← byte]
  rfl

/-- A run that enters `FIN` leaves it at the next edge (R201). -/
theorem run_to_fin_then_idle (k : Nat) (s t : State) (rest : List In) (h : s.Inv) (hr : run k s = .next t)
    (hq : t.seq = .fin) (hi : t.inputs = In.quiet :: rest) :
    run (k + 1) s = .next { t with seq := .idle, inputs := rest } := by
  rw [run_add k 1 s t hr]
  exact run_succ 0 _ _ (step_fin_quiet t rest (run_keeps_inv k s t h hr) hq hi)

/-- Settles O22: acceptance, the writes up to the failing one, and the edge in `FIN`. -/
theorem transportErrorAborts : Obligations.TransportErrorAborts := by
  intro i s ws w v rest h hq he hd hv hi
  obtain ⟨ptr, dly, -⟩ := (legal_quiet s (.inl hq)).mp h.2
  have accepted_inv := acceptedBy_startEmission_inv i s h hq he
  have failed := run_busWrites_fail _ accepted_inv rfl rfl hd ws w v (In.quiet :: rest) hv
    (hi.trans (List.append_assoc ..))
  have cycles : (ws.map (· + 1)).sum + (w + 1) + ws.length * s.cfg.settleTicks + 1 =
      (physicalEdges s.cfg.settleTicks ws).length + (w + 1) + 1 := by
    rw [physicalEdges_length]
    omega
  refine ⟨_, exec_of_emitsOn i s hq he, ?_⟩
  rw [cycles]
  refine (run_to_fin_then_idle _ _ _ rest accepted_inv failed rfl rfl).trans (congrArg _ ?_)
  have inited_unless_init : ¬ i.op = opInit → s.inited = true := by
    obtain ⟨-, -, init_or_inited⟩ := he
    exact init_or_inited.resolve_left
  simpa [State.endOf, State.complete, State.setFault, State.record, State.wrote, State.runningList, State.listOf,
    State.startEmission, State.present, State.acceptedBy, State.latch, ptr, dly] using inited_unless_init

/-- Settles O23: acceptance, the dump writes up to the failing one, the whole list on the bus, and the edge in `FIN`. -/
theorem dumpSinkErrorRestarts : Obligations.DumpSinkErrorRestarts := by
  intro i s ws w v ws' rest h hq he hd hv hl hi
  obtain ⟨ptr, dly, -⟩ := (legal_quiet s (.inl hq)).mp h.2
  have restarted := run_dumpWrites_fail i s h hq he hd ws w v _ hv (hi.trans (List.append_assoc ..))
  have restarted_inv := run_keeps_inv _ _ _ (acceptedBy_startEmission_inv i s h hq he) restarted
  have listed := run_busList _ restarted_inv rfl rfl rfl ws' (In.quiet :: rest) hl rfl
  have cycles : (ws.map (· + 1)).sum + (w + 1) + (ws'.map (· + 1)).sum + ws'.length * s.cfg.settleTicks + 1 =
      (ws.map (· + 1)).sum + (w + 1) + ((physicalEdges s.cfg.settleTicks ws').length + 1) := by
    rw [physicalEdges_length]
    omega
  refine ⟨_, exec_of_emitsOn i s hq he, ?_⟩
  rw [cycles, run_add _ _ _ _ restarted]
  refine (run_to_fin_then_idle _ _ _ rest restarted_inv listed rfl rfl).trans (congrArg _ ?_)
  have inited_at_end : ¬ i.op = opInit ∧ s.inited = true ∨ i.op = opInit := by
    obtain ⟨-, -, init_or_inited⟩ := he
    tauto
  simpa [State.endOf, State.finish, State.complete, State.warnDump, State.record, State.wrote, State.runningList,
    State.listOf, State.logged, State.startEmission, State.present, State.acceptedBy, State.latch, ptr, dly] using
    inited_at_end

end Sys2Proof.Machine
end

section
/-! Refused requests: the check that decides on each request, and the completion of one it refuses (R239 to R243). -/

namespace Sys2Proof.Machine

/-- The check that decides on a request (R194, R239 to R243). -/
def State.checkOf (i : Instr) (s : State) : Option Status :=
  match i with
  | .init _ | .dumpOn _ | .dumpOff _ => s.faultedCheck
  | .cmd _ | .data _ | .bl _ => s.notInitCheck
  | .recover _ => none
  | .reserved7 _ => some .eIllegal

theorem exec_of_checkOf_some (i : Instr) (s : State) (st : Status) (hq : s.seq = .idle) (hc : s.checkOf i = some st) :
    exec i s = .next ((s.latch i.op i.arg).complete st) := by
  cases i <;> exact next_accept_of_check_some _ _ _ _ s st hq hc

/-- R243: the reserved operation is refused first, then a faulted block's requests, then those before an INIT. -/
theorem checkOf_eq_some (i : Instr) (s : State) (st : Status)
    (refusal : (st = .eIllegal ∧ i.op = opReserved7) ∨
      (st = .eFaulted ∧ s.fault = true ∧ i.op ≠ opRecover ∧ i.op ≠ opReserved7) ∨
      (st = .eNotInit ∧ s.fault = false ∧ s.inited = false ∧ (i.op = opCmd ∨ i.op = opData ∨ i.op = opBl))) :
    s.checkOf i = some st := by
  rcases refusal with ⟨rfl, hop⟩ | ⟨rfl, faulted, not_recover, not_reserved⟩ | ⟨rfl, not_faulted, not_inited, hop⟩
  · cases i with
    | reserved7 a => rfl
    | init a | cmd a | data a | bl a | dumpOn a | dumpOff a | recover a => cases hop
  · cases i with
    | init a | dumpOn a | dumpOff a | cmd a | data a | bl a => exact if_pos faulted
    | recover a => exact absurd rfl not_recover
    | reserved7 a => exact absurd rfl not_reserved
  · cases i with
    | cmd a | data a | bl a => simp [State.checkOf, State.notInitCheck, not_faulted, not_inited]
    | init a | dumpOn a | dumpOff a | recover a | reserved7 a => rcases hop with hop | hop | hop <;> cases hop

/-- Settles O11: the check refuses the request, which completes at once. -/
theorem refusalChangesNothingElse : Obligations.RefusalChangesNothingElse := by
  intro i s st h hq hr refusal
  have refused := exec_of_checkOf_some i s st hq (checkOf_eq_some i s st refusal)
  obtain ⟨-, accepted, done, no_bus, no_dump, left⟩ :=
    completesAtOnce_of_complete i s h hr hq (s.latch i.op i.arg) st refused ⟨rfl, rfl⟩ (legal_cause s h.2)
  exact ⟨_, accepted, rfl, done, rfl, no_bus, no_dump, left, rfl⟩

end Sys2Proof.Machine
end

section
/-! Reset, at rest and during an operation (R270, R272; log entry 20). -/

namespace Sys2Proof.Machine

/-- R213 reads neither the coming edges nor the trace, the two elements in which `applyReset` differs from `resetWith`. -/
theorem applyReset_inv (s : State) (h : s.cfg.wf = true) : s.applyReset.Inv := resetWith_inv s.cfg h

/-- R272: whatever was running, the block is idle, with no port valid and `done` not pulsed. -/
theorem applyReset_idle (s : State) : s.applyReset.seq = .idle ∧ s.applyReset.lastStatus = 0 ∧
    s.applyReset.outputs.busValid = false ∧ s.applyReset.outputs.dumpValid = false ∧
    s.applyReset.outputs.done = false :=
  ⟨rfl, rfl, rfl, rfl, rfl⟩

/-- R270: a second reset edge finds no operation to abandon, so it uses its inputs and nothing else. -/
theorem applyReset_popIn_applyReset (s : State) : s.applyReset.popIn.applyReset = s.applyReset.popIn := rfl

/-- R270, R272: a reset edge adds no event. -/
theorem traceAfterReset_prefix (s : State) : s.traceAfterReset <+: s.trace := by
  obtain kept | ⟨-, op, st, withdrawn⟩ := traceAfterReset_cases s
  · exact kept ▸ List.prefix_rfl
  · exact ⟨[.done op st], withdrawn.symm⟩

/-- Settles O1: the edge is `applyReset`, which leaves an idle state of the invariant. -/
theorem resetEdgeGivesResetState : Obligations.ResetEdgeGivesResetState := by
  intro s hc hr
  have inv := applyReset_inv s.popIn hc
  obtain ⟨idle, -, no_bus, no_dump, no_done⟩ := applyReset_idle s.popIn
  refine ⟨s.popIn.applyReset, step_reset s hc hr, rfl, traceAfterReset_prefix s, no_bus, no_dump, no_done,
    fun stays => ?_, fun released no_request => step_idle _ inv released idle no_request,
    fun released valid => step_accept _ inv released idle _ ⟨valid, rfl⟩⟩
  rw [step_reset _ inv.1 stays, applyReset_popIn_applyReset]
  rfl

/-- R204: an edge that enters `FIN` records at most a write before the `Done` of the operation it ends, and no `Done` else. -/
theorem step_enters_fin (s u : State) (h : s.Inv) (hr : s.nextIn.rst = false) (hs : step s = .next u)
    (hq : u.seq = .fin) :
    ∃ ws st, u.lastStatus = Status.code st ∧ u.trace = s.trace ++ ws ++ [.done u.opQ st] ∧ ws.length ≤ 1 ∧
      ∀ op st, .done op st ∉ ws := by
  cases step_outcome s u h hs with
  | reset reset => exact absurd (hr.symm.trans reset) nofun
  | accepted _ ha he =>
    obtain ⟨v, st, rfl, unchanged⟩ | ⟨emitting, -⟩ := exec_completes_or_emits _ _ s.popIn u ha.1 he
    · exact ⟨[], st, rfl, by simp [unchanged], Nat.zero_le 1, nofun⟩
    · exact absurd (hq.symm.trans emitting) nofun
  | busFailed _ _ ht =>
    subst ht
    exact ⟨[.busFail s.curByte], .eTransport, rfl, rfl, le_rfl, by simp⟩
  | dumpFailed _ _ ht =>
    subst ht
    exact absurd hq nofun
  | quiet _ _ _ _ v kept ht =>
    obtain ⟨ws, written, one, no_done⟩ := kept.trace
    obtain ⟨not_fin, -⟩ | ⟨-, rfl⟩ := ht
    · exact absurd hq not_fin
    · exact ⟨ws, .ok, rfl, by simp [written], one, no_done⟩

/-- Settles O51: in `EMIT` and `SETTLE` there is no `Done` to withdraw; in `FIN` it is the one the edge before recorded. -/
theorem resetAbandonsOperation : Obligations.ResetAbandonsOperation := by
  refine ⟨fun s hc hr running => ?running, fun s u h hr hs hq reset => ?fin⟩
  case running =>
    have not_fin : s.seq ≠ .fin := by rcases running with hq | hq <;> simp [hq]
    obtain ⟨idle, status, no_bus, no_dump, -⟩ := applyReset_idle s.popIn
    exact ⟨s.popIn.applyReset, step_reset s hc hr, idle, status, no_bus, no_dump, s.traceAfterReset_of_ne_fin not_fin⟩
  case fin =>
    obtain ⟨ws, st, status, completed, one, no_done⟩ := step_enters_fin s u h hr hs hq
    have withdrawn : u.traceAfterReset = s.trace ++ ws := by
      rw [u.traceAfterReset_of_fin hq, completed, withdrawDone_done]
    obtain ⟨idle, status_cleared, -, -, no_pulse⟩ := applyReset_idle u.popIn
    refine ⟨u.popIn.applyReset, ws, st, step_reset u (stepKeepsInv s u h hs).1 reset, idle, status_cleared, no_pulse,
      withdrawn, one, no_done, status, ?_⟩
    rw [completed, ← withdrawn]
    rfl

end Sys2Proof.Machine
end
